-- ==== Sys2Proof/Word.lean ====
section
/-! DEFINITION. The words of the part: bytes, step numbers, ids, revisions, counters. -/

namespace Sys2Proof

/-- A byte of a message or of the configuration record (R186). -/
abbrev Byte := BitVec 8

/-- A step number: 32 bits, wrapping (R6). -/
abbrev StepNo := BitVec 32

/-- A station id, 0..62; 63 stands for all in a target (R187). -/
abbrev NodeId := BitVec 6

/-- A cue revision, 0..15 (R5). -/
abbrev Revision := BitVec 4

/-- A global channel address, 0..16383 (R1). -/
abbrev Channel := BitVec 14

/-- A level parameter of a cue, 0..4095 (R1). -/
abbrev Level := BitVec 12

/-- A counter: 16 bits, stopping at 65535 (R185). -/
abbrev Count := BitVec 16

end Sys2Proof
end

