-- ==== Sys2Proof/Syntax.lean ====
section
/-! DEFINITION. The commands of the block: one constructor per row of spec/opcode_table.json. -/

namespace Sys2Proof

/-- The symbol that aborts a reception (R114, R116). After a START the data bytes that follow it are given. -/
inductive AbortSymbol
  | idle
  | undecodable
  | start (following : List Byte)
  deriving DecidableEq, Repr

/-- The events of the node, in the order of the table. The end of a reception carries no operand: the bytes received
stand in the receive buffer (R116), and the row is the one that the buffer's content makes it (log 2). -/
inductive Instr
  | fullReset
  | resetRelease
  /-- The 340 bytes read from the serial memory (R192). -/
  | loadComplete (record : List Byte)
  | linkModeSwitch
  | receptionAborted (symbol : AbortSymbol)
  | receptionOverlong
  | beacon
  | join
  | cue
  | release
  | clear
  | answer
  | unknownKind
  | readStatus
  | readCounters
  | readCue
  | readPeer
  | readChannel
  | clearCounters
  | restart
  | badSelector
  | ownMessageStripped
  /-- Whether a part of a tick has passed since the end of reception, beyond the whole ticks (R51). -/
  | grant (partTick : Bool)
  | transmissionEnd
  | placeWaitingEntries
  | placeWaitingJoin
  | ordinaryAdvance
  | tombstoneFreed
  | passComplete
  | cycleStart
  /-- The levels of TRG7..TRG0 (bit i is line i), and whether a step boundary of this moment is taken after the
  capture and before the local admission (R92). -/
  | triggerSample (levels : BitVec 8) (boundaryBetween : Bool)
  | publicationTimeout
  | watchExpiry
  | joinExpiry
  | listenEnd
  | peerSilent
  | peerGone
  | beaconDue
  | strayEchoAgeExpiry
  /-- The data bytes that follow the START (R116). -/
  | receptionStart (bytes : List Byte)
  | passThroughRepeatingResumed
  deriving DecidableEq, Repr

end Sys2Proof
end

