-- ==== Sys2Proof/Config.lean ====
section
/-! DEFINITION. What a run of the part does not change: the configuration record's values (R155, R86, R95),
and the free values, which the spec leaves open. -/

namespace Sys2Proof.Machine

/-- How a cue's level combines with the result so far (R1, R34). -/
inductive Blend | replace | highest | scale
  deriving DecidableEq, Repr

/-- The level function of a cue (R2). -/
inductive LevelFunction | fixed | ramp | alternate | gradient
  deriving DecidableEq, Repr

/-- What becomes of a cue when its origin leaves the roster (R1, R22). -/
inductive OrphanPolicy | keep | drop
  deriving DecidableEq, Repr

/-- What an isolated node shows past the isolation hold (R40). -/
inductive FailsafePolicy | hold | failsafeLevel
  deriving DecidableEq, Repr

/-- The output curve (R41). -/
inductive OutputCurve | linear | square
  deriving DecidableEq, Repr

/-- The PWM counting pattern (R66). -/
inductive PwmMode | edge | centre
  deriving DecidableEq, Repr

/-- The edge a binding answers (R86). -/
inductive BindingEdge | rise | fall | both
  deriving DecidableEq, Repr

/-- What a binding asks of the publication unit (R86). -/
inductive TriggerAction | start | release | toggle
  deriving DecidableEq, Repr

/-- A valid template (R95). A template the loader marks not valid is absent from the list (log 16). -/
structure Template where
  number   : Byte
  priority : BitVec 4
  first    : Channel
  last     : Channel
  blend    : Blend
  function : LevelFunction
  l0       : Level
  l1       : Level
  d        : BitVec 16
  duration : Option (BitVec 16)
  lead     : Byte
  fade     : BitVec 16
  orphan   : OrphanPolicy
  deriving DecidableEq, Repr

/-- A valid binding (R86). A binding the loader marks not valid is absent from the list (log 16). -/
structure Binding where
  input    : Nat
  edge     : BindingEdge
  action   : TriggerAction
  template : Nat
  deriving DecidableEq, Repr

/-- The loaded configuration record (R155, R191). The sample interval is in ticks. -/
structure NodeConfig where
  stationId      : NodeId
  channelBase    : Nat
  channelCount   : Nat
  stepLength     : Nat
  tolerance      : Nat
  linkAllowance  : Nat
  circuitLimit   : Nat
  beaconInterval : Nat
  listenLength   : Nat
  isolationHold  : Nat
  failsafePolicy : FailsafePolicy
  failsafeLevel  : Nat
  outputCurve    : OutputCurve
  pwmMode        : PwmMode
  clockDivider   : Nat
  stagger        : Nat
  sampleInterval : Nat
  templates      : List (Option Template)
  bindings       : List (Option Binding)
  deriving DecidableEq, Repr

/-- DESIGN CHOICE (log 8, unsafe): the values that stand before a record has been loaded, each the lowest of its
range in R155, with no valid template and no valid binding. No block reads them while the node is LOADING or
UNCONFIGURED. -/
def NodeConfig.blank : NodeConfig :=
  { stationId := 0, channelBase := 0, channelCount := 1, stepLength := 500, tolerance := 0, linkAllowance := 0,
    circuitLimit := 1, beaconInterval := 4, listenLength := 8, isolationHold := 0, failsafePolicy := .hold,
    failsafeLevel := 0, outputCurve := .linear, pwmMode := .edge, clockDivider := 1, stagger := 0,
    sampleInterval := 50, templates := List.replicate 16 none, bindings := List.replicate 16 none }

/-- FREE VALUE (log 6): the target id of an own BEACON, JOIN, CUE or RELEASE, by the count of free values taken.
R187 gives the range 0..62 or 63 and no rule says which of them the node sends; no receiver reads it (R124). -/
opaque Config.ownTarget : Nat → NodeId

/-- FREE VALUE (log 7): how many channels beyond none the pass in flight evaluates in one tick. R29 bounds only
the whole pass. -/
opaque Config.channelsEvaluated : Nat → Nat

end Sys2Proof.Machine
end

