-- ==== Sys2Proof/Machine/State.lean ====
section
/-! DEFINITION. The state of the node: every piece of state the spec names, block by block, and its value after a
full reset. -/

namespace Sys2Proof.Machine

/-! ### Cue table (R1, R7) -/

/-- The content of a cue (R1). `stop` is the optional end step. -/
structure Cue where
  origin   : NodeId
  number   : Byte
  revision : Revision
  priority : BitVec 4
  first    : Channel
  last     : Channel
  blend    : Blend
  function : LevelFunction
  l0       : Level
  l1       : Level
  d        : BitVec 16
  start    : StepNo
  stop     : Option StepNo
  orphan   : OrphanPolicy
  deriving DecidableEq, Repr

/-- A release step with its fade: present or absent together (R7, R96). -/
structure FadeOut where
  step : StepNo
  fade : BitVec 16
  deriving DecidableEq, Repr

/-- The phase of a LIVE entry (R7, R23). -/
inductive EntryPhase | pending | active | fading
  deriving DecidableEq, Repr

/-- A LIVE entry of the cue table (R7). -/
structure LiveEntry where
  cue     : Cue
  release : Option FadeOut
  phase   : EntryPhase
  late    : Bool
  arrival : StepNo
  deriving DecidableEq, Repr

/-- A TOMBSTONE entry of the cue table (R7). -/
structure Tombstone where
  origin   : NodeId
  number   : Byte
  revision : Revision
  step     : StepNo
  deriving DecidableEq, Repr

/-- A slot of the cue table (R7). -/
inductive Slot
  | free
  | live (e : LiveEntry)
  | tombstone (t : Tombstone)
  deriving DecidableEq, Repr

/-! ### Timebase (R46) -/

/-- The timebase: `step` is N, `phase` is p, `isSet` the set flag, `running` RUNNING or HELD. -/
structure Timebase where
  step     : StepNo
  phase    : Nat
  isSet    : Bool
  trimUsed : Nat
  running  : Bool
  deriving DecidableEq, Repr

/-! ### Composer (R28) -/

/-- A composition pass in flight: its target step and progress (R28), its failsafe decision (R40), the LIVE entries of
the table as they stood at its start (R29, R26), and the ticks since its start, against R29's bound. -/
structure Pass where
  target   : StepNo
  progress : Nat
  failsafe : Bool
  view     : List LiveEntry
  age      : Nat
  deriving DecidableEq, Repr

/-- One offset of the composed record (R28). -/
structure Composed where
  level : Nat
  duty  : Nat
  deriving DecidableEq, Repr

structure Composer where
  pass           : Option Pass
  record         : List Composed
  isolationEntry : Option StepNo
  deriving DecidableEq, Repr

/-! ### Pulse unit (R65) -/

/-- The pulse unit. `up` is the slope, `live` the release state. `cycleDue`: the counter has reached a cycle start that
has not been taken yet (R67, R68; log 17). -/
structure PulseUnit where
  counter  : Nat
  up       : Bool
  running  : Bool
  active   : List Nat
  pending  : List Nat
  fresh    : Bool
  zeroed   : Bool
  live     : Bool
  cycleDue : Bool
  deriving DecidableEq, Repr

/-! ### Trigger unit (R81) -/

/-- The kind of a filtered edge (R84). -/
inductive Edge | rise | fall
  deriving DecidableEq, Repr

/-- A capture (R62, R84). -/
structure Capture where
  edge  : Edge
  step  : StepNo
  phase : Nat
  isSet : Bool
  deriving DecidableEq, Repr

/-- One trigger input: filtered level (true is HIGH), disagreement count, last capture (R81). -/
structure TriggerInput where
  level   : Bool
  count   : Nat
  capture : Option Capture
  deriving DecidableEq, Repr

/-- The trigger unit. `lines` are the levels of TRG7..TRG0 as last seen: an input of the part. -/
structure TriggerUnit where
  running   : Bool
  countdown : Nat
  inputs    : List TriggerInput
  lines     : BitVec 8
  deriving DecidableEq, Repr

/-! ### Publication unit (R96, R100) -/

inductive OriginState | idle | live | releasing
  deriving DecidableEq, Repr

inductive PublishOutcome | none | delivered | partially | failed | localRefused
  deriving DecidableEq, Repr

/-- An origin slot (R96). `counts` are the seen and refused counts of the last return. -/
structure OriginSlot where
  state    : OriginState
  revision : Revision
  start    : Option StepNo
  stop     : Option StepNo
  release  : Option FadeOut
  replay   : Bool
  outcome  : PublishOutcome
  counts   : Option (BitVec 6 × BitVec 6)
  deriving DecidableEq, Repr

/-- The kind of a publication (R100). -/
inductive PubKind | cue | release
  deriving DecidableEq, Repr

/-- An entry of the publication list (R100). `onRing` is ON-RING, otherwise WAITING-QUEUE; `target` and `payload` are the
message content it sends on each attempt. -/
structure Publication where
  sequence     : Byte
  kind         : PubKind
  slot         : Nat
  replay       : Bool
  localRefusal : Bool
  attempt      : Nat
  onRing       : Bool
  sent         : Option StepNo
  target       : NodeId
  payload      : List Byte
  deriving DecidableEq, Repr

/-! ### Ring port (R115) -/

inductive LinkMode | passThrough | storeAndForward
  deriving DecidableEq, Repr

/-- A message, field by field (R187). The payload length field and the CRC are computed from the rest. -/
structure Message where
  kind       : BitVec 4
  origin     : NodeId
  target     : NodeId
  sequence   : Byte
  hop        : BitVec 6
  seen       : BitVec 6
  refused    : BitVec 6
  stampStep  : StepNo
  stampPhase : BitVec 16
  transit    : BitVec 16
  payload    : List Byte
  deriving DecidableEq, Repr

/-- An entry of the insertion buffer: a message with the tick of its end of reception (R127). -/
structure Waiting where
  message : Message
  tick    : Nat
  deriving DecidableEq, Repr

/-- The kinds of message a node originates (R129). -/
inductive OwnKind | beacon | join | cue | release | answer
  deriving DecidableEq, Repr

/-- An own message in the send queue; its header is completed at the start of its transmission (R133). -/
structure OwnMessage where
  kind     : OwnKind
  sequence : Byte
  target   : NodeId
  payload  : List Byte
  deriving DecidableEq, Repr

/-- The transmitter (R115), with the bytes of the message in transmission between its START and END. -/
inductive Transmitter
  | idle
  | forwarding (bytes : List Byte)
  | sendingOwn (kind : OwnKind) (sequence : Byte) (bytes : List Byte)
  deriving DecidableEq, Repr

/-- The ring port. `receive` is the receive buffer: absent when empty. `repeating`: in PASS-THROUGH the transmitter
repeats the upstream link, and does not wait for an upstream IDLE after a truncation (R118, R135). -/
structure RingPort where
  mode         : LinkMode
  repeating    : Bool
  receive      : Option (List Byte)
  insertion    : List Waiting
  sendQueue    : List OwnMessage
  recent       : List Byte
  nextSequence : Byte
  transmitter  : Transmitter
  guardCount   : Nat
  deriving DecidableEq, Repr

/-! ### Roster (R138) -/

/-- A roster entry. `silent` is SILENT, otherwise PRESENT; the compatible flag is derived (R143). -/
structure Peer where
  id         : NodeId
  hop        : BitVec 6
  range      : Option (BitVec 16 × Byte)
  stepLength : Option (BitVec 16)
  interval   : Option Byte
  firstHeard : StepNo
  lastHeard  : StepNo
  silence    : Nat
  silent     : Bool
  deriving DecidableEq, Repr

/-! ### Node controller (R152) -/

inductive NodeState | loading | unconfigured | listen | admitting | ring | isolated | clash
  deriving DecidableEq, Repr

/-- The node controller (R152). `admitting` is the state ADMIT. -/
structure Controller where
  state          : NodeState
  listenCount    : Nat
  grace          : Nat
  joinAttempt    : Nat
  joinSequences  : List Byte
  joinSent       : Option StepNo
  joinWaiting    : Bool
  watch          : Option StepNo
  missCount      : Nat
  strayAges      : List Nat
  wasIsolated    : Bool
  restartPending : Option Byte
  deriving DecidableEq, Repr

/-! ### Responder (R173) and counters (R185) -/

structure Responder where
  countdown    : Nat
  lateSeen     : Bool
  refusalSeen  : Bool
  overflowSeen : Bool
  deriving DecidableEq, Repr

/-- The counters of the four groups, in the order of R185. -/
structure Counters where
  crcError        : Count
  malformed       : Count
  hopLimit        : Count
  forwardOverflow : Count
  unknownKind     : Count
  strayEcho       : Count
  answerLost      : Count
  beaconSkipped   : Count
  admitted        : Count
  replaced        : Count
  duplicate       : Count
  stale           : Count
  expired         : Count
  refused         : Count
  late            : Count
  outside         : Count
  incompatible    : Count
  trim            : Count
  trimLimited     : Count
  jump            : Count
  passAborted     : Count
  setSuperseded   : Count
  failsafeSteps   : Count
  triggerLost     : Count
  published       : Count
  delivered       : Count
  partially       : Count
  failed          : Count
  replaysSent     : Count
  isolations      : Count
  joinAttempts    : Count
  deriving DecidableEq, Repr

/-! ### Loader (R154, R192) -/

/-- The configuration loader: idle, or reading the record, with the SCK cycles that have passed. -/
inductive Loader
  | idle
  | reading (cycles : Nat)
  deriving DecidableEq, Repr

/-! ### Work left due -/

/-- What the last step boundary, a report of room or an entry to RING or ISOLATED has left for a block to act on
(log 5). Each mark is taken by the row of its name; `listenEnded` alone is no work, and says that LISTEN has ended at this
moment (R170). -/
structure Due where
  tombstones   : Bool
  peerSilent   : Bool
  peerGone     : Bool
  publications : Bool
  joinExpiry   : Bool
  joinPlace    : Bool
  watch        : Bool
  listenEnd    : Bool
  listenEnded  : Bool
  strayAges    : Bool
  beacon       : Bool
  entries      : Bool
  deriving DecidableEq, Repr

/-- The node, the queue of commands waiting for it, and the model's own counters of ticks and of free values. -/
structure State where
  pending      : List Instr
  resetHeld    : Bool
  loader       : Loader
  config       : NodeConfig
  time         : Timebase
  table        : List Slot
  composer     : Composer
  pulse        : PulseUnit
  trigger      : TriggerUnit
  origins      : List OriginSlot
  publications : List Publication
  ring         : RingPort
  roster       : List Peer
  controller   : Controller
  responder    : Responder
  counters     : Counters
  due          : Due
  now          : Nat
  freeCount    : Nat
  deriving DecidableEq, Repr

/-- The model stops with no fault: the spec gives the part no event that stops it. -/
inductive Fault
  deriving DecidableEq, Repr

/-- The reasons for which a command has no meaning. -/
inductive Refusal
  /-- Raised by `exec` for a row without a meaning; safe. No row is left so. -/
  | notModelled (mnemonic : String)
  deriving DecidableEq, Repr

/-! ### The values after a full reset -/

/-- R46. -/
def Timebase.reset : Timebase := { step := 0, phase := 0, isSet := false, trimUsed := 0, running := false }

/-- R28. -/
def Composer.reset : Composer :=
  { pass := none, record := List.replicate 64 { level := 0, duty := 0 }, isolationEntry := none }

/-- R65. -/
def PulseUnit.reset : PulseUnit :=
  { counter := 0, up := true, running := false, active := List.replicate 64 0, pending := List.replicate 64 0,
    fresh := false, zeroed := true, live := false, cycleDue := false }

/-- R81; the lines are an input of the part (log 9). -/
def TriggerUnit.reset : TriggerUnit :=
  { running := false, countdown := 0, inputs := List.replicate 8 { level := false, count := 0, capture := none },
    lines := 0 }

/-- R96. -/
def OriginSlot.reset : OriginSlot :=
  { state := .idle, revision := 0, start := none, stop := none, release := none, replay := false, outcome := .none,
    counts := none }

/-- R115; at power-on no transmission was truncated, so the link repeats (log 9). -/
def RingPort.reset : RingPort :=
  { mode := .passThrough, repeating := true, receive := none, insertion := [], sendQueue := [], recent := [],
    nextSequence := 0, transmitter := .idle, guardCount := 0 }

/-- R152. -/
def Controller.reset : Controller :=
  { state := .loading, listenCount := 0, grace := 0, joinAttempt := 0, joinSequences := [], joinSent := none,
    joinWaiting := false, watch := none, missCount := 0, strayAges := [], wasIsolated := false,
    restartPending := none }

/-- R173. -/
def Responder.reset : Responder :=
  { countdown := 0, lateSeen := false, refusalSeen := false, overflowSeen := false }

/-- R185: every counter at 0. -/
def Counters.zero : Counters :=
  { crcError := 0, malformed := 0, hopLimit := 0, forwardOverflow := 0, unknownKind := 0, strayEcho := 0,
    answerLost := 0, beaconSkipped := 0, admitted := 0, replaced := 0, duplicate := 0, stale := 0, expired := 0,
    refused := 0, late := 0, outside := 0, incompatible := 0, trim := 0, trimLimited := 0, jump := 0,
    passAborted := 0, setSuperseded := 0, failsafeSteps := 0, triggerLost := 0, published := 0, delivered := 0,
    partially := 0, failed := 0, replaysSent := 0, isolations := 0, joinAttempts := 0 }

/-- Nothing is due. -/
def Due.none : Due :=
  { tombstones := false, peerSilent := false, peerGone := false, publications := false, joinExpiry := false,
    joinPlace := false, watch := false, listenEnd := false, listenEnded := false, strayAges := false, beacon := false,
    entries := false }

/-- The node right after a full reset, with the reset still held (R154; log 9) and no command waiting. -/
def State.reset : State :=
  { pending := [], resetHeld := true, loader := .idle, config := .blank, time := .reset,
    table := List.replicate 48 .free, composer := .reset, pulse := .reset, trigger := .reset,
    origins := List.replicate 16 .reset, publications := [], ring := .reset, roster := [], controller := .reset,
    responder := .reset, counters := .zero, due := .none, now := 0, freeCount := 0 }

/-! ### Replacing one block -/

def State.withTime (s : State) (x : Timebase) : State := { s with time := x }
def State.withTable (s : State) (x : List Slot) : State := { s with table := x }
def State.withComposer (s : State) (x : Composer) : State := { s with composer := x }
def State.withPulse (s : State) (x : PulseUnit) : State := { s with pulse := x }
def State.withTrigger (s : State) (x : TriggerUnit) : State := { s with trigger := x }
def State.withOrigins (s : State) (x : List OriginSlot) : State := { s with origins := x }
def State.withPublications (s : State) (x : List Publication) : State := { s with publications := x }
def State.withRing (s : State) (x : RingPort) : State := { s with ring := x }
def State.withRoster (s : State) (x : List Peer) : State := { s with roster := x }
def State.withController (s : State) (x : Controller) : State := { s with controller := x }
def State.withResponder (s : State) (x : Responder) : State := { s with responder := x }
def State.withCounters (s : State) (x : Counters) : State := { s with counters := x }
def State.withDue (s : State) (x : Due) : State := { s with due := x }
def State.withFreeCount (s : State) (x : Nat) : State := { s with freeCount := x }

end Sys2Proof.Machine
end

