-- ==== Sys2Proof/Machine/Ops.lean ====
section
/-! DEFINITION. Orders on steps and revisions, and small operations that every block shares. -/

namespace Sys2Proof.Machine

/-! ### Step order (R6) -/

/-- Step a is at or after step b (R6). Of two steps exactly 2^31 apart neither is at or after the other, by the formula of
R6, and R6's sentence on a step more than 2^31 - 1 behind makes each ahead of the other: the model follows the formula,
its choice (log 24). -/
def stepAtOrAfter (a b : StepNo) : Bool := (a - b).toNat < 2 ^ 31

/-- Step a is after step b (R6). -/
def stepAfter (a b : StepNo) : Bool := stepAtOrAfter a b && a != b

/-- Step a is before step b (R6). -/
def stepBefore (a b : StepNo) : Bool := stepAfter b a

/-! ### Revision order (R5) -/

/-- How an arriving revision stands to a held one (R5). -/
inductive RevisionOrder | same | newer | stale
  deriving DecidableEq, Repr

/-- R5: the difference mod 16 is 0, 1..7, or 8..15. -/
def revisionOrder (arriving held : Revision) : RevisionOrder :=
  let d := (arriving - held).toNat
  if d = 0 then .same else if d ≤ 7 then .newer else .stale

/-! ### Numbers that stop at their highest value -/

/-- A counter stops at 65535 (R185). -/
def bumpCount (c : Count) : Count := if c = 0xFFFF#16 then c else c + 1

/-- A seen or refused count stops at 63 (R126). -/
def bumpSix (c : BitVec 6) : BitVec 6 := if c = 63#6 then c else c + 1

/-- Transit stops at 65535 (R51). -/
def addTransit (t : BitVec 16) (n : Nat) : BitVec 16 :=
  if t.toNat + n > 65535 then 0xFFFF#16 else BitVec.ofNat 16 (t.toNat + n)

/-! ### Reading the state -/

/-- The node's own id (R155). -/
def State.ownId (s : State) : NodeId := s.config.stationId

/-- The states in which the node strips its own id (R119) and judges echoes and ages (R166). -/
def NodeState.strips : NodeState → Bool
  | .listen | .admitting | .ring | .isolated => true
  | .loading | .unconfigured | .clash => false

/-- The states in which messages of the node's own origin are eligible and placed (R132, R179). -/
def NodeState.sendsOwn : NodeState → Bool
  | .admitting | .ring | .isolated => true
  | .loading | .unconfigured | .listen | .clash => false

/-- The states in which publications are placed and beacons fall due (R101, R174). -/
def NodeState.publishes : NodeState → Bool
  | .ring | .isolated => true
  | .loading | .unconfigured | .listen | .admitting | .clash => false

/-- The states in which the node takes part in the ring: it handles messages and composes (R123, R29). -/
def NodeState.takesPart : NodeState → Bool
  | .listen | .admitting | .ring | .isolated | .clash => true
  | .loading | .unconfigured => false

/-- Code of a node state (R189). -/
def NodeState.code : NodeState → Byte
  | .loading => 0
  | .unconfigured => 1
  | .listen => 2
  | .admitting => 3
  | .ring => 4
  | .isolated => 5
  | .clash => 6

/-- The send queue has room (R129). -/
def State.queueRoom (s : State) : Bool := s.ring.sendQueue.length < 8

/-- A range first..last meets the range base..base + count - 1, which is empty for a count of 0 (R13, R106). -/
def rangeMeets (first last base count : Nat) : Bool :=
  decide (0 < count) && decide (first < base + count) && decide (base ≤ last)

/-- A range meets the node's owned range (R13). -/
def NodeConfig.owns (c : NodeConfig) (first last : Channel) : Bool :=
  rangeMeets first.toNat last.toNat c.channelBase c.channelCount

/-! ### Tables kept as lists -/

/-- The origin slot t, or a reset slot beyond the table (R96). -/
def State.originSlot (s : State) (t : Nat) : OriginSlot := s.origins.getD t .reset

/-- Replace origin slot t. -/
def State.setOriginSlot (s : State) (t : Nat) (o : OriginSlot) : State := s.withOrigins (s.origins.set t o)

/-- The valid template t, if it is one (R95). -/
def NodeConfig.template (c : NodeConfig) (t : Nat) : Option Template := c.templates.getD t none

/-! ### Sequences and the send queue (R128, R129) -/

/-- Take the next sequence: the ring port gives it and advances it by one, mod 256 (R128). -/
def State.takeSequence (s : State) : Byte × State :=
  (s.ring.nextSequence, s.withRing { s.ring with nextSequence := s.ring.nextSequence + 1 })

/-- Take a free value for the target of an own message that is not an ANSWER (R187; log 6). -/
def State.takeTarget (s : State) : NodeId × State := (Config.ownTarget s.freeCount, s.withFreeCount (s.freeCount + 1))

/-- A message joins the end of the send queue; the caller has judged that there is room (R129). -/
def State.enqueue (s : State) (m : OwnMessage) : State :=
  s.withRing { s.ring with sendQueue := s.ring.sendQueue ++ [m] }

end Sys2Proof.Machine
end

