-- ==== Sys2Proof/Machine/Flags.lean ====
section
/-! DEFINITION. The counters (R185) and the summary flags of the next BEACON (R177). -/

namespace Sys2Proof.Machine

/-- The names of the counters, in the order of R185. -/
inductive Counter
  | crcError | malformed | hopLimit | forwardOverflow | unknownKind | strayEcho | answerLost | beaconSkipped
  | admitted | replaced | duplicate | stale | expired | refused | late | outside | incompatible
  | trim | trimLimited | jump | passAborted | setSuperseded | failsafeSteps
  | triggerLost | published | delivered | partially | failed | replaysSent | isolations | joinAttempts
  deriving DecidableEq, Repr

/-- One counter is incremented and the others stay (R185). -/
def Counters.bump (c : Counters) : Counter → Counters
  | .crcError => { c with crcError := bumpCount c.crcError }
  | .malformed => { c with malformed := bumpCount c.malformed }
  | .hopLimit => { c with hopLimit := bumpCount c.hopLimit }
  | .forwardOverflow => { c with forwardOverflow := bumpCount c.forwardOverflow }
  | .unknownKind => { c with unknownKind := bumpCount c.unknownKind }
  | .strayEcho => { c with strayEcho := bumpCount c.strayEcho }
  | .answerLost => { c with answerLost := bumpCount c.answerLost }
  | .beaconSkipped => { c with beaconSkipped := bumpCount c.beaconSkipped }
  | .admitted => { c with admitted := bumpCount c.admitted }
  | .replaced => { c with replaced := bumpCount c.replaced }
  | .duplicate => { c with duplicate := bumpCount c.duplicate }
  | .stale => { c with stale := bumpCount c.stale }
  | .expired => { c with expired := bumpCount c.expired }
  | .refused => { c with refused := bumpCount c.refused }
  | .late => { c with late := bumpCount c.late }
  | .outside => { c with outside := bumpCount c.outside }
  | .incompatible => { c with incompatible := bumpCount c.incompatible }
  | .trim => { c with trim := bumpCount c.trim }
  | .trimLimited => { c with trimLimited := bumpCount c.trimLimited }
  | .jump => { c with jump := bumpCount c.jump }
  | .passAborted => { c with passAborted := bumpCount c.passAborted }
  | .setSuperseded => { c with setSuperseded := bumpCount c.setSuperseded }
  | .failsafeSteps => { c with failsafeSteps := bumpCount c.failsafeSteps }
  | .triggerLost => { c with triggerLost := bumpCount c.triggerLost }
  | .published => { c with published := bumpCount c.published }
  | .delivered => { c with delivered := bumpCount c.delivered }
  | .partially => { c with partially := bumpCount c.partially }
  | .failed => { c with failed := bumpCount c.failed }
  | .replaysSent => { c with replaysSent := bumpCount c.replaysSent }
  | .isolations => { c with isolations := bumpCount c.isolations }
  | .joinAttempts => { c with joinAttempts := bumpCount c.joinAttempts }

/-- The value of one counter. -/
def Counters.get (c : Counters) : Counter → Count
  | .crcError => c.crcError
  | .malformed => c.malformed
  | .hopLimit => c.hopLimit
  | .forwardOverflow => c.forwardOverflow
  | .unknownKind => c.unknownKind
  | .strayEcho => c.strayEcho
  | .answerLost => c.answerLost
  | .beaconSkipped => c.beaconSkipped
  | .admitted => c.admitted
  | .replaced => c.replaced
  | .duplicate => c.duplicate
  | .stale => c.stale
  | .expired => c.expired
  | .refused => c.refused
  | .late => c.late
  | .outside => c.outside
  | .incompatible => c.incompatible
  | .trim => c.trim
  | .trimLimited => c.trimLimited
  | .jump => c.jump
  | .passAborted => c.passAborted
  | .setSuperseded => c.setSuperseded
  | .failsafeSteps => c.failsafeSteps
  | .triggerLost => c.triggerLost
  | .published => c.published
  | .delivered => c.delivered
  | .partially => c.partially
  | .failed => c.failed
  | .replaysSent => c.replaysSent
  | .isolations => c.isolations
  | .joinAttempts => c.joinAttempts

/-- The counters of a group, in the positions of R185. -/
def Counter.group : Nat → List Counter
  | 0 => [.crcError, .malformed, .hopLimit, .forwardOverflow, .unknownKind, .strayEcho, .answerLost, .beaconSkipped]
  | 1 => [.admitted, .replaced, .duplicate, .stale, .expired, .refused, .late, .outside, .incompatible]
  | 2 => [.trim, .trimLimited, .jump, .passAborted, .setSuperseded, .failsafeSteps]
  | 3 => [.triggerLost, .published, .delivered, .partially, .failed, .replaysSent, .isolations, .joinAttempts]
  | _ => []

/-- Increment a counter of the node. -/
def State.count (s : State) (k : Counter) : State := s.withCounters (s.counters.bump k)

/-- The cue table reports a late CUE: late seen is set (R17, R177). -/
def State.noteLate (s : State) : State := s.withResponder { s.responder with lateSeen := true }

/-- The cue table reports a refusal: refusal seen is set (R27, R177). -/
def State.noteRefusal (s : State) : State := s.withResponder { s.responder with refusalSeen := true }

/-- The ring port reports a forward overflow: overflow seen is set (R127, R177). -/
def State.noteOverflow (s : State) : State := s.withResponder { s.responder with overflowSeen := true }

end Sys2Proof.Machine
end

