-- ==== Sys2Proof/Machine/CueTable.lean ====
section
/-! DEFINITION. The cue table (chapter 1): what enters, changes and leaves it. -/

namespace Sys2Proof.Machine

/-- The outcome that the cue table hands back for one piece of content (R12). -/
inductive Admission
  | admitted | replaced | duplicate | stale | expired | refused | outside | incompatible | malformed
  deriving DecidableEq, Repr

/-! ### Keys and slots (R4, R8, R9, R10) -/

/-- The slot holds the key of origin o and cue number n, live or tombstone (R4). -/
def Slot.holds (o : NodeId) (n : Byte) : Slot → Bool
  | .free => false
  | .live e => e.cue.origin == o && e.cue.number == n
  | .tombstone t => t.origin == o && t.number == n

def Slot.isFree : Slot → Bool
  | .free => true
  | .live _ => false
  | .tombstone _ => false

def Slot.isLive : Slot → Bool
  | .free => false
  | .live _ => true
  | .tombstone _ => false

def Slot.isTombstone : Slot → Bool
  | .free => false
  | .live _ => false
  | .tombstone _ => true

/-- The slot that holds a key, if the key is held (R4). -/
def findKey (table : List Slot) (o : NodeId) (n : Byte) : Option Nat := table.findIdx? (Slot.holds o n)

/-- The live count (R9). -/
def liveCount (table : List Slot) : Nat := table.countP Slot.isLive

/-- The tombstone count (R9). -/
def tombstoneCount (table : List Slot) : Nat := table.countP Slot.isTombstone

/-- The oldest tombstone from slot i on, against the best so far: the earliest tombstone step in step order, the
lowest-numbered slot among equals (R10). -/
def oldestTombstoneFrom (i : Nat) (best : Option (Nat × StepNo)) : List Slot → Option (Nat × StepNo)
  | [] => best
  | .tombstone t :: rest =>
    match best with
    | none => oldestTombstoneFrom (i + 1) (some (i, t.step)) rest
    | some (j, step) =>
      if stepBefore t.step step then oldestTombstoneFrom (i + 1) (some (i, t.step)) rest
      else oldestTombstoneFrom (i + 1) (some (j, step)) rest
  | .free :: rest => oldestTombstoneFrom (i + 1) best rest
  | .live _ :: rest => oldestTombstoneFrom (i + 1) best rest

/-- The slot that the oldest tombstone occupies (R10). -/
def oldestTombstone (table : List Slot) : Option Nat := (oldestTombstoneFrom 0 none table).map Prod.fst

/-- A slot for a key that is not held: the lowest free one, else the oldest tombstone's, else none (R10). -/
def obtainSlot (table : List Slot) : Option Nat :=
  match table.findIdx? Slot.isFree with
  | some i => some i
  | none => oldestTombstone table

/-! ### Taking a CUE (R13 to R18) -/

/-- R14: the end step is not after the current step. Not judged while the timebase is unset. -/
def State.cueExpired (s : State) (c : Cue) : Bool :=
  s.time.isSet &&
    match c.stop with
    | some e => !stepAfter e s.time.step
    | none => false

/-- R17: the start step is at or before the current step. Not judged while the timebase is unset. -/
def State.cueLate (s : State) (c : Cue) : Bool := s.time.isSet && stepAtOrAfter s.time.step c.start

/-- The entry that a stored or replaced CUE becomes (R15, R16, R17). -/
def State.newEntry (s : State) (c : Cue) : LiveEntry :=
  { cue := c, release := none, phase := .pending, late := s.cueLate c, arrival := s.time.step }

/-- Store a CUE in slot i and count it (R15, R16), with the late judgement of R17. -/
def State.storeCueAt (s : State) (i : Nat) (c : Cue) (k : Counter) : State :=
  let stored := (s.withTable (s.table.set i (.live (s.newEntry c)))).count k
  if s.cueLate c then (stored.count .late).noteLate else stored

/-- A refusal: counted and reported; the table is unchanged (R10, R27). -/
def State.refuseContent (s : State) : State := (s.count .refused).noteRefusal

/-- The revision that a slot holds. -/
def Slot.revision : Slot → Revision
  | .free => 0
  | .live e => e.cue.revision
  | .tombstone t => t.revision

/-- A CUE whose content has passed the check of R3 is judged by its sender, its range, its end and the held revision,
and stored, replaced or counted (R13 to R17). -/
def State.takeCue (s : State) (c : Cue) (compatible : Bool) : Admission × State :=
  if !compatible then (.incompatible, s.count .incompatible)
  else
    match findKey s.table c.origin c.number with
    | none =>
      if !s.config.owns c.first c.last then (.outside, s.count .outside)
      else if s.cueExpired c then (.expired, s.count .expired)
      else
        match obtainSlot s.table with
        | none => (.refused, s.refuseContent)
        | some i => (.admitted, s.storeCueAt i c .admitted)
    | some i =>
      if s.cueExpired c then (.expired, s.count .expired)
      else
        match revisionOrder c.revision (s.table.getD i .free).revision with
        | .same => (.duplicate, s.count .duplicate)
        | .stale => (.stale, s.count .stale)
        | .newer =>
          if s.config.owns c.first c.last then (.replaced, s.storeCueAt i c .replaced)
          else
            (.outside,
              (s.withTable (s.table.set i
                (.tombstone { origin := c.origin, number := c.number, revision := c.revision,
                              step := s.time.step }))).count .outside)

/-! ### Taking a RELEASE (section 1.5, R19) -/

/-- A RELEASE recorded on a held slot, or on a tombstone, or as a new tombstone. The case of a LIVE entry is the
unnumbered text that opens section 1.5 (log 1); the others are R19. -/
def State.takeRelease (s : State) (o : NodeId) (n : Byte) (r : Revision) (f : FadeOut) (compatible : Bool) :
    Admission × State :=
  let newTombstone : Slot := .tombstone { origin := o, number := n, revision := r, step := s.time.step }
  if !compatible then (.incompatible, s.count .incompatible)
  else
    match findKey s.table o n with
    | none =>
      match obtainSlot s.table with
      | none => (.refused, s.refuseContent)
      | some i => (.admitted, (s.withTable (s.table.set i newTombstone)).count .admitted)
    | some i =>
      match s.table.getD i .free with
      | .free => (.stale, s.count .stale)
      | .live e =>
        match revisionOrder r e.cue.revision with
        | .stale => (.stale, s.count .stale)
        | .same =>
          if e.release = some f then (.duplicate, s.count .duplicate)
          else (.replaced, (s.withTable (s.table.set i (.live { e with release := some f }))).count .replaced)
        | .newer =>
          (.replaced,
            (s.withTable (s.table.set i
              (.live { e with release := some f, cue := { e.cue with revision := r } }))).count .replaced)
      | .tombstone t =>
        match revisionOrder r t.revision with
        | .same => (.duplicate, s.count .duplicate)
        | .stale => (.stale, s.count .stale)
        | .newer => (.replaced, (s.withTable (s.table.set i newTombstone)).count .replaced)

/-! ### Clearing, purging, dropping (R20, R21, R22) -/

/-- A LIVE entry becomes a tombstone of its key and revision (R7). -/
def LiveEntry.entomb (e : LiveEntry) (step : StepNo) : Slot :=
  .tombstone { origin := e.cue.origin, number := e.cue.number, revision := e.cue.revision, step := step }

/-- What a CLEAR of origin o at step `clearStep` does to one slot; `atOnce` says that the clear step is at or before
the current step (R20). Otherwise the second case holds, of a clear step exactly 2^31 from the current step too, which is
neither at or before it nor after it; and an end step exactly 2^31 from the clear step is kept. Both are the model's choice
(log 24). -/
def clearSlot (o : NodeId) (clearStep now : StepNo) (atOnce : Bool) : Slot → Slot
  | .free => .free
  | .tombstone t => .tombstone t
  | .live e =>
    if e.cue.origin ≠ o then .live e
    else if atOnce then e.entomb now
    else
      match e.cue.stop with
      | none => .live { e with cue := { e.cue with stop := some clearStep } }
      | some stop =>
        if stepAfter stop clearStep then .live { e with cue := { e.cue with stop := some clearStep } }
        else .live e

/-- A CLEAR is taken, uncounted, unless its sender is incompatible. While the timebase is unset the second case of R20
holds. It needs no slot and is never refused. -/
def State.takeClear (s : State) (o : NodeId) (clearStep : StepNo) (compatible : Bool) : State :=
  if !compatible then s.count .incompatible
  else
    let atOnce := s.time.isSet && stepAtOrAfter s.time.step clearStep
    s.withTable (s.table.map (clearSlot o clearStep s.time.step atOnce))

/-- The origin of the entry that a slot holds. -/
def Slot.origin? : Slot → Option NodeId
  | .free => none
  | .live e => some e.cue.origin
  | .tombstone t => some t.origin

/-- The JOIN purge frees every entry of an origin (R21). -/
def State.purgeOrigin (s : State) (o : NodeId) : State :=
  s.withTable (s.table.map fun slot => if slot.origin? = some o then .free else slot)

/-- What the orphan drop of origin o does to one slot (R22). -/
def dropSlot (o : NodeId) (now : StepNo) : Slot → Slot
  | .free => .free
  | .tombstone t => .tombstone t
  | .live e => if e.cue.origin = o ∧ e.cue.orphan = .drop then e.entomb now else .live e

/-- The orphan drop of an origin removed at its gone limit (R22). -/
def State.dropOrphans (s : State) (o : NodeId) : State := s.withTable (s.table.map (dropSlot o s.time.step))

/-! ### Work at each pass start (R23, R24, R25) -/

/-- The phase of an entry for target step n (R23, step 1). -/
def LiveEntry.phaseAt (e : LiveEntry) (n : StepNo) : EntryPhase :=
  if stepBefore n e.cue.start then .pending
  else
    match e.release with
    | some r => if stepAtOrAfter n r.step then .fading else .active
    | none => .active

/-- The end step is present and n is at or after it (R23, step 2). -/
def LiveEntry.endReached (e : LiveEntry) (n : StepNo) : Bool :=
  match e.cue.stop with
  | some stop => stepAtOrAfter n stop
  | none => false

/-- The step at which a fade is over (R6, R23). -/
def FadeOut.over (r : FadeOut) : StepNo := r.step + r.fade.setWidth 32

/-- The fade is over at n (R23, step 3). -/
def LiveEntry.fadeOver (e : LiveEntry) (n : StepNo) : Bool :=
  match e.release with
  | some r => stepAtOrAfter n r.over
  | none => false

/-- One slot is brought up to step n (R23). -/
def slotAtPass (n : StepNo) : Slot → Slot
  | .free => .free
  | .tombstone t => .tombstone t
  | .live e =>
    match e.phaseAt n with
    | .pending => .live { e with phase := .pending }
    | .active => if e.endReached n then e.entomb n else .live { e with phase := .active }
    | .fading => if e.endReached n || e.fadeOver n then e.entomb n else .live { e with phase := .fading }

/-- A tombstone 256 steps old at n is freed (R24). -/
def freeOldTombstone (n : StepNo) : Slot → Slot
  | .free => .free
  | .live e => .live e
  | .tombstone t => if stepAtOrAfter n (t.step + 256) then .free else .tombstone t

/-- At the setting of the timebase every tombstone step becomes the set step (R25). -/
def restampTombstone (n : StepNo) : Slot → Slot
  | .free => .free
  | .live e => .live e
  | .tombstone t => .tombstone { t with step := n }

/-- The LIVE entries of the table, for the composer's view (R29). -/
def liveEntries (table : List Slot) : List LiveEntry :=
  table.filterMap fun slot =>
    match slot with
    | .live e => some e
    | .free => none
    | .tombstone _ => none

end Sys2Proof.Machine
end

