-- ==== Sys2Proof/Machine/Composition.lean ====
section
/-! DEFINITION. Composition (chapter 2): from the entries of a pass to levels and duties. -/

namespace Sys2Proof.Machine

/-! ### Which entries apply, and in what order (R32, R33) -/

/-- An entry of the view covers channel c (R32). -/
def LiveEntry.covers (e : LiveEntry) (c : Nat) : Bool :=
  e.phase != .pending && decide (e.cue.first.toNat ≤ c) && decide (c ≤ e.cue.last.toNat)

/-- Entry a is applied before entry b: priority, then start step, then origin, then cue number (R33). -/
def LiveEntry.appliedBefore (a b : LiveEntry) : Bool :=
  if a.cue.priority ≠ b.cue.priority then a.cue.priority.toNat < b.cue.priority.toNat
  else if a.cue.start ≠ b.cue.start then stepBefore a.cue.start b.cue.start
  else if a.cue.origin ≠ b.cue.origin then a.cue.origin.toNat < b.cue.origin.toNat
  else a.cue.number.toNat < b.cue.number.toNat

/-- Insert an entry at its place in the application order. -/
def insertApplied (e : LiveEntry) : List LiveEntry → List LiveEntry
  | [] => [e]
  | x :: rest => if e.appliedBefore x then e :: x :: rest else x :: insertApplied e rest

/-- The entries in the order in which they are applied (R33). -/
def applicationOrder : List LiveEntry → List LiveEntry
  | [] => []
  | e :: rest => insertApplied e (applicationOrder rest)

/-! ### Level functions and fading (R35 to R38) -/

/-- L0 moved toward L1 by m (R35). -/
def movedToward (l0 l1 m : Nat) : Nat := if l0 ≤ l1 then l0 + m else l0 - m

/-- The distance of the two levels (R35, R37). -/
def levelDistance (l0 l1 : Nat) : Nat := if l0 ≤ l1 then l1 - l0 else l0 - l1

/-- The unfaded value u of a cue for target step n on channel c (R35, R36, R37). -/
def Cue.unfaded (q : Cue) (n : StepNo) (c : Nat) : Nat :=
  let l0 := q.l0.toNat
  let l1 := q.l1.toNat
  let d := q.d.toNat
  let k := (n - q.start).toNat
  match q.function with
  | .fixed => l0
  | .ramp => if d ≤ k then l1 else movedToward l0 l1 (levelDistance l0 l1 * k / d)
  | .alternate => if k / d % 2 = 0 then l0 else l1
  | .gradient =>
    if q.first = q.last then l0
    else movedToward l0 l1 (levelDistance l0 l1 * (c - q.first.toNat) / (q.last.toNat - q.first.toNat))

/-- The value v that an entry applies: u, reduced over its fade when FADING (R38). -/
def LiveEntry.value (e : LiveEntry) (n : StepNo) (c : Nat) : Nat :=
  let u := e.cue.unfaded n c
  match e.phase, e.release with
  | .fading, some r => u * (r.fade.toNat - (n - r.step).toNat) / r.fade.toNat
  | .fading, none => u
  | .active, _ => u
  | .pending, _ => u

/-! ### Blending (R34) and the composed level -/

/-- The result after one entry of value v (R34). -/
def Blend.apply (b : Blend) (result v : Nat) : Nat :=
  match b with
  | .replace => v
  | .highest => max result v
  | .scale => result * v / 4095

/-- The composed level of channel c from the entries of a view (R32, R33, R34). -/
def composedLevel (view : List LiveEntry) (n : StepNo) (c : Nat) : Nat :=
  (applicationOrder (view.filter fun e => e.covers c)).foldl (fun result e => e.cue.blend.apply result (e.value n c)) 0

/-- The output curve (R41). -/
def OutputCurve.duty (curve : OutputCurve) (level : Nat) : Nat :=
  match curve with
  | .linear => level
  | .square => level * level / 4095

/-! ### The pass (R28, R40, R42) -/

/-- The level of one owned offset in a pass (R40). -/
def Pass.level (p : Pass) (c : NodeConfig) (offset : Nat) : Nat :=
  if p.failsafe then c.failsafeLevel else composedLevel p.view p.target (c.channelBase + offset)

/-- What a completed pass writes for one offset; offsets from the count on have level and duty 0 (R28, R41, R42). -/
def Pass.composed (p : Pass) (c : NodeConfig) (offset : Nat) : Composed :=
  if offset < c.channelCount then
    { level := p.level c offset, duty := c.outputCurve.duty (p.level c offset) }
  else { level := 0, duty := 0 }

/-- The results of a pass, offsets 0 to 63 (R42). -/
def Pass.results (p : Pass) (c : NodeConfig) : List Composed := (List.range 64).map (p.composed c)

/-- A pass for target step n is past the isolation hold (R39). -/
def State.pastHold (s : State) (n : StepNo) : Bool :=
  match s.composer.isolationEntry with
  | some entry => stepAtOrAfter n (entry + BitVec.ofNat 32 s.config.isolationHold)
  | none => false

/-- The failsafe decision at a pass start (R40). -/
def State.failsafeDecision (s : State) (n : StepNo) : Bool :=
  s.config.failsafePolicy == .failsafeLevel && s.pastHold n

/-- A pass in flight is aborted and counted; without one nothing changes (R30). -/
def State.abortPass (s : State) : State :=
  match s.composer.pass with
  | some _ => (s.withComposer { s.composer with pass := none }).count .passAborted
  | none => s

/-- The start of a pass for target step n, after the tombstones have been restamped if the boundary set the timebase
(R25, R29, R30): the pass in flight is aborted, the entries are brought up to n, the failsafe decision is made and the
view taken. The freeing of old tombstones is left due (R24). -/
def State.startPass (s : State) (n : StepNo) : State :=
  let s1 := s.abortPass
  let s2 := s1.withTable (s1.table.map (slotAtPass n))
  let failsafe := s2.failsafeDecision n
  let s3 := s2.withComposer
    { s2.composer with
      pass := some { target := n, progress := 0, failsafe := failsafe, view := liveEntries s2.table, age := 0 } }
  let s4 := s3.withDue { s3.due with tombstones := true }
  if failsafe then s4.count .failsafeSteps else s4

/-- The composer records the entry to ISOLATED (R39). -/
def State.recordIsolation (s : State) : State :=
  s.withComposer { s.composer with isolationEntry := some s.time.step }

/-- The composer takes the departure from ISOLATED (R39). -/
def State.endIsolation (s : State) : State := s.withComposer { s.composer with isolationEntry := none }

/-- A pass completes: the pending set is written and marked fresh, the record is written, a supersession is counted
(R42, R71). -/
def State.completePass (s : State) : State :=
  match s.composer.pass with
  | none => s
  | some p =>
    let results := p.results s.config
    let s1 := if s.pulse.fresh then s.count .setSuperseded else s
    (s1.withPulse { s1.pulse with pending := results.map Composed.duty, fresh := true }).withComposer
      { s1.composer with pass := none, record := results }

/-- One tick of a pass in flight: its age grows, and its progress by a free value within the offsets (log 7). -/
def State.tickPass (s : State) : State :=
  match s.composer.pass with
  | none => s
  | some p =>
    { s with
      composer :=
        { s.composer with
          pass := some { p with age := p.age + 1,
                                progress :=
                                  min (s.config.channelCount - 1) (p.progress + Config.channelsEvaluated s.freeCount) } }
      freeCount := s.freeCount + 1 }

end Sys2Proof.Machine
end

