-- ==== Sys2Proof/Machine/Operands.lean ====
section
/-! DEFINITION. The bytes of messages and of the configuration record (chapter 11): reading them and writing them. -/

namespace Sys2Proof.Machine

/-! ### Bytes (R186: most significant byte first) -/

def be16 (x : BitVec 16) : List Byte := [x.extractLsb' 8 8, x.extractLsb' 0 8]

def be32 (x : BitVec 32) : List Byte :=
  [x.extractLsb' 24 8, x.extractLsb' 16 8, x.extractLsb' 8 8, x.extractLsb' 0 8]

/-- Byte i of a list of bytes; 0 beyond its end. -/
def byteAt (b : List Byte) (i : Nat) : Byte := b.getD i 0

def word16At (b : List Byte) (i : Nat) : BitVec 16 := byteAt b i ++ byteAt b (i + 1)

def word32At (b : List Byte) (i : Nat) : BitVec 32 :=
  byteAt b i ++ byteAt b (i + 1) ++ byteAt b (i + 2) ++ byteAt b (i + 3)

def boolBit (b : Bool) : BitVec 1 := if b then 1 else 0

/-! ### CRC (R188) -/

/-- One bit enters the CRC: polynomial x^16 + x^12 + x^5 + 1 (R188). -/
def crcBit (crc : BitVec 16) (bit : Bool) : BitVec 16 :=
  if Bool.xor crc.msb bit then (crc <<< 1) ^^^ 0x1021#16 else crc <<< 1

/-- One byte enters the CRC, most significant bit first (R188). -/
def crcByte (crc : BitVec 16) (b : Byte) : BitVec 16 :=
  crcBit (crcBit (crcBit (crcBit (crcBit (crcBit (crcBit (crcBit crc
    (b.getLsbD 7)) (b.getLsbD 6)) (b.getLsbD 5)) (b.getLsbD 4)) (b.getLsbD 3)) (b.getLsbD 2)) (b.getLsbD 1)) (b.getLsbD 0)

/-- The CRC of a list of bytes, initial value FFFFh, not inverted (R188). -/
def crc16 (bytes : List Byte) : BitVec 16 := bytes.foldl crcByte 0xFFFF#16

/-! ### Messages (R187) -/

/-- Length in bytes on the link, CRC included (R187). -/
def Message.length (m : Message) : Nat := 18 + m.payload.length

/-- Air time in ticks: 0.32 us a byte, rounded up (R52). -/
def airTime (length : Nat) : Nat := (length * 32 + 99) / 100

/-- The 16 header bytes, spare bits zero (R187). -/
def Message.header (m : Message) : List Byte :=
  [m.kind ++ 0#4, 0#2 ++ m.origin, 0#2 ++ m.target, m.sequence, 0#2 ++ m.hop, 0#2 ++ m.seen, 0#2 ++ m.refused,
    0#2 ++ BitVec.ofNat 6 m.payload.length] ++ be32 m.stampStep ++ be16 m.stampPhase ++ be16 m.transit

/-- The data bytes of a message between START and END: header, payload, CRC (R114, R187, R188). -/
def Message.bytes (m : Message) : List Byte :=
  (m.header ++ m.payload) ++ be16 (crc16 (m.header ++ m.payload))

/-- The fields of a received message (R187); spare bits are ignored. -/
def Message.ofBytes (b : List Byte) : Message :=
  { kind := (byteAt b 0).extractLsb' 4 4
    origin := (byteAt b 1).extractLsb' 0 6
    target := (byteAt b 2).extractLsb' 0 6
    sequence := byteAt b 3
    hop := (byteAt b 4).extractLsb' 0 6
    seen := (byteAt b 5).extractLsb' 0 6
    refused := (byteAt b 6).extractLsb' 0 6
    stampStep := word32At b 8
    stampPhase := word16At b 12
    transit := word16At b 14
    payload := (b.take (b.length - 2)).drop 16 }

/-- The payload length field of a received message (R187). -/
def payloadLengthField (b : List Byte) : Nat := ((byteAt b 7).extractLsb' 0 6).toNat

/-- What the acceptance checks give (R117). -/
inductive Acceptance
  | malformed
  | crcError
  | accepted (m : Message)
  deriving DecidableEq, Repr

/-- The acceptance checks at END, in the order of R117. -/
def acceptance (b : List Byte) : Acceptance :=
  if b.length < 18 then .malformed
  else if crc16 (b.take (b.length - 2)) ≠ word16At b (b.length - 2) then .crcError
  else if payloadLengthField b > 32 ∨ 16 + payloadLengthField b + 2 ≠ b.length
      ∨ (Message.ofBytes b).origin = 63#6 then .malformed
  else .accepted (Message.ofBytes b)

/-! ### Kind codes (R187) and codes of fields (R189) -/

def OwnKind.code : OwnKind → BitVec 4
  | .beacon => 1
  | .join => 2
  | .cue => 3
  | .release => 4
  | .answer => 7

def PubKind.ownKind : PubKind → OwnKind
  | .cue => .cue
  | .release => .release

/-- The kind of publication a kind code names, if any (R103). -/
def pubKindOf (kind : BitVec 4) : Option PubKind :=
  if kind = 3#4 then some .cue else if kind = 4#4 then some .release else none

def Blend.code : Blend → BitVec 2
  | .replace => 0
  | .highest => 1
  | .scale => 2

/-- Blend code 3 is undefined (R189). -/
def Blend.ofCode (c : BitVec 2) : Option Blend :=
  if c = 0#2 then some .replace else if c = 1#2 then some .highest else if c = 2#2 then some .scale else none

def LevelFunction.code : LevelFunction → BitVec 2
  | .fixed => 0
  | .ramp => 1
  | .alternate => 2
  | .gradient => 3

def LevelFunction.ofCode (c : BitVec 2) : LevelFunction :=
  if c = 0#2 then .fixed else if c = 1#2 then .ramp else if c = 2#2 then .alternate else .gradient

def OrphanPolicy.ofBit (b : Bool) : OrphanPolicy := if b then .drop else .keep

def OrphanPolicy.bit : OrphanPolicy → BitVec 1
  | .keep => 0
  | .drop => 1

/-- RAMP and ALTERNATE need D of at least 1 (R2, R3). -/
def LevelFunction.needsPeriod : LevelFunction → Bool
  | .ramp | .alternate => true
  | .fixed | .gradient => false

/-! ### Payloads (R189) -/

/-- Byte 15 of a CUE payload, bit 6: the end step is present. -/
def cueEndPresent (p : List Byte) : Bool := (byteAt p 15).getLsbD 6

/-- The payload lengths that R189 allows for a kind code; a CUE's length agrees with its end-present flag. -/
def Message.lengthAllowed (m : Message) : Bool :=
  match m.kind.toNat with
  | 1 => m.payload.length == 16
  | 2 => m.payload.length == 6
  | 3 => if cueEndPresent m.payload then m.payload.length == 20 else m.payload.length == 16
  | 4 => m.payload.length == 8
  | 5 => m.payload.length == 5
  | 6 => m.payload.length == 2
  | 7 => decide (3 ≤ m.payload.length) && decide (m.payload.length ≤ 27)
  | _ => false

/-- The CUE record of a payload of allowed length, if its content passes the check of R3 (R189). -/
def cueOfPayload (origin : NodeId) (p : List Byte) : Option Cue :=
  match Blend.ofCode ((word16At p 2).extractLsb' 14 2) with
  | none => none
  | some blend =>
    let cue : Cue :=
      { origin := origin
        number := byteAt p 0
        revision := (byteAt p 1).extractLsb' 4 4
        priority := (byteAt p 1).extractLsb' 0 4
        first := (word16At p 2).extractLsb' 0 14
        last := (word16At p 4).extractLsb' 0 14
        blend := blend
        function := LevelFunction.ofCode ((word16At p 4).extractLsb' 14 2)
        l0 := (byteAt p 6 ++ byteAt p 7 ++ byteAt p 8).extractLsb' 12 12
        l1 := (byteAt p 6 ++ byteAt p 7 ++ byteAt p 8).extractLsb' 0 12
        d := word16At p 9
        start := word32At p 11
        stop := if cueEndPresent p then some (word32At p 16) else none
        orphan := OrphanPolicy.ofBit ((byteAt p 15).getLsbD 7) }
    if cue.last.toNat < cue.first.toNat then none
    else if cue.function.needsPeriod && cue.d == 0#16 then none
    else some cue

/-- Bytes 2 to 8 of a CUE payload: blend with first channel, function with last channel, L0 and L1 (R189, R190). -/
def Cue.rangeBytes (c : Cue) : List Byte :=
  be16 (c.blend.code ++ c.first) ++ be16 (c.function.code ++ c.last) ++
    [(c.l0 ++ c.l1).extractLsb' 16 8, (c.l0 ++ c.l1).extractLsb' 8 8, (c.l0 ++ c.l1).extractLsb' 0 8]

/-- The payload of a CUE (R189). -/
def Cue.payload (c : Cue) : List Byte :=
  [c.number, c.revision ++ c.priority] ++ c.rangeBytes ++ be16 c.d ++ be32 c.start ++
    [c.orphan.bit ++ boolBit c.stop.isSome ++ 0#6] ++
    (match c.stop with
     | some e => be32 e
     | none => [])

/-- The payload of a RELEASE (R189). -/
def releasePayload (number : Byte) (revision : Revision) (r : FadeOut) : List Byte :=
  [number, 0#4 ++ revision] ++ be32 r.step ++ be16 r.fade

/-- The payload that JOIN and BEACON share: what a node announces (R189). -/
def NodeConfig.announcement (c : NodeConfig) : List Byte :=
  be16 (BitVec.ofNat 16 c.channelBase) ++ [BitVec.ofNat 8 c.channelCount] ++ be16 (BitVec.ofNat 16 c.stepLength) ++
    [BitVec.ofNat 8 c.beaconInterval]

/-! ### The configuration record (R191) -/

/-- Template t of the record, if its used bit is 1 and every field is in range; repeats are judged later (R191). -/
def templateOfRecord (r : List Byte) (t : Nat) : Option Template :=
  let at_ := 18 + 18 * t
  let flags := byteAt r at_
  let function := LevelFunction.ofCode (flags.extractLsb' 0 2)
  let first := (word16At r (at_ + 3)).toNat
  let last := (word16At r (at_ + 5)).toNat
  let duration := word16At r (at_ + 13)
  match Blend.ofCode (flags.extractLsb' 2 2) with
  | none => none
  | some blend =>
    if !flags.getLsbD 7 then none
    else if (byteAt r (at_ + 2)).toNat > 15 then none
    else if first > 16383 ∨ last > 16383 ∨ last < first then none
    else if (word16At r (at_ + 7)).toNat > 4095 ∨ (word16At r (at_ + 9)).toNat > 4095 then none
    else if function.needsPeriod && word16At r (at_ + 11) == 0#16 then none
    else if flags.getLsbD 6 && duration == 0#16 then none
    else if byteAt r (at_ + 15) = 0#8 then none
    else some
      { number := byteAt r (at_ + 1)
        priority := BitVec.ofNat 4 (byteAt r (at_ + 2)).toNat
        first := BitVec.ofNat 14 first
        last := BitVec.ofNat 14 last
        blend := blend
        function := function
        l0 := BitVec.ofNat 12 (word16At r (at_ + 7)).toNat
        l1 := BitVec.ofNat 12 (word16At r (at_ + 9)).toNat
        d := word16At r (at_ + 11)
        duration := if flags.getLsbD 6 then some duration else none
        lead := byteAt r (at_ + 15)
        fade := word16At r (at_ + 16)
        orphan := OrphanPolicy.ofBit (flags.getLsbD 5) }

/-- A template whose cue number repeats that of a lower-numbered valid template is not valid (R95). `seen` are the cue
numbers of the valid templates before. -/
def dropRepeats (seen : List Byte) : List (Option Template) → List (Option Template)
  | [] => []
  | none :: rest => none :: dropRepeats seen rest
  | some t :: rest =>
    if seen.contains t.number then none :: dropRepeats seen rest
    else some t :: dropRepeats (t.number :: seen) rest

/-- The 16 templates of the record, each valid or not (R95, R191). -/
def templatesOfRecord (r : List Byte) : List (Option Template) :=
  dropRepeats [] ((List.range 16).map (templateOfRecord r))

/-- Binding b of the record, valid when it is used, its codes are in range and its template is valid (R86, R191). -/
def bindingOfRecord (r : List Byte) (templates : List (Option Template)) (b : Nat) : Option Binding :=
  let flags := byteAt r (306 + 2 * b)
  let template := (byteAt r (307 + 2 * b)).toNat
  let edge : Option BindingEdge :=
    match (flags.extractLsb' 5 2).toNat with
    | 0 => some .rise
    | 1 => some .fall
    | 2 => some .both
    | _ => none
  let action : Option TriggerAction :=
    match (flags.extractLsb' 3 2).toNat with
    | 0 => some .start
    | 1 => some .release
    | 2 => some .toggle
    | _ => none
  match edge, action with
  | some e, some a =>
    if flags.getLsbD 7 && decide (template ≤ 15) && (templates.getD template none).isSome then
      some { input := (flags.extractLsb' 0 3).toNat, edge := e, action := a, template := template }
    else none
  | _, _ => none

/-- The values of a record, before any check (R191). The clock divider is 1, 2, 4 or 8 for the codes 0 to 3; the
sample interval is in units of 50 us, which are 50 ticks. -/
def configOfRecord (r : List Byte) : NodeConfig :=
  let options := byteAt r 13
  let templates := templatesOfRecord r
  { stationId := BitVec.ofNat 6 (byteAt r 0).toNat
    channelBase := (word16At r 1).toNat
    channelCount := (byteAt r 3).toNat
    stepLength := (word16At r 4).toNat
    tolerance := (byteAt r 6).toNat
    linkAllowance := (byteAt r 7).toNat
    circuitLimit := (byteAt r 8).toNat
    beaconInterval := (byteAt r 9).toNat
    listenLength := (byteAt r 10).toNat
    isolationHold := (word16At r 11).toNat
    failsafePolicy := if options.getLsbD 7 then .failsafeLevel else .hold
    failsafeLevel := (word16At r 14).toNat
    outputCurve := if options.getLsbD 6 then .square else .linear
    pwmMode := if options.getLsbD 5 then .centre else .edge
    clockDivider := 2 ^ (options.extractLsb' 0 2).toNat
    stagger := (byteAt r 16).toNat
    sampleInterval := 50 * (byteAt r 17).toNat
    templates := templates
    bindings := (List.range 16).map (bindingOfRecord r templates) }

/-- The ranges of the node-level fields (R155). -/
def NodeConfig.inRange (c : NodeConfig) : Bool :=
  decide (1 ≤ c.channelCount ∧ c.channelCount ≤ 64 ∧ c.channelBase + c.channelCount ≤ 16384) &&
  decide (500 ≤ c.stepLength ∧ c.stepLength ≤ 20000) &&
  decide (c.tolerance ≤ 255) && decide (c.linkAllowance ≤ 255) &&
  decide (1 ≤ c.circuitLimit ∧ c.circuitLimit ≤ 16) &&
  decide (4 ≤ c.beaconInterval ∧ c.beaconInterval ≤ 64) &&
  decide (8 ≤ c.listenLength ∧ c.listenLength ≤ 255) &&
  decide (c.isolationHold ≤ 65535) && decide (c.failsafeLevel ≤ 4095) &&
  decide (c.clockDivider = 1 ∨ c.clockDivider = 2 ∨ c.clockDivider = 4 ∨ c.clockDivider = 8) &&
  decide (c.stagger ≤ 63) &&
  decide (50 ≤ c.sampleInterval ∧ c.sampleInterval ≤ 6400 ∧ c.sampleInterval % 50 = 0)

/-- The 340 bytes the loader clocks in; a byte that the memory does not give reads FFh, its pulled-up level (R192). -/
def recordRead (record : List Byte) : List Byte := (List.range 340).map fun i => record.getD i 0xFF#8

/-- The checks of R155 in their order: presence, CRC, node-level fields. The station id is judged as the byte. -/
def loadRecord (record : List Byte) : Option NodeConfig :=
  let r := recordRead record
  if r.all (· == 0xFF#8) then none
  else if crc16 (r.take 338) ≠ word16At r 338 then none
  else if (byteAt r 0).toNat > 62 then none
  else if (configOfRecord r).inRange then some (configOfRecord r)
  else none

end Sys2Proof.Machine
end

