-- ==== Sys2Proof/Machine/Publication.lean ====
section
/-! DEFINITION. The publication unit (chapter 6): origin table, publication list, placing, returns, timeouts, replay. -/

namespace Sys2Proof.Machine

/-! ### The publication list (R100, R101, R102) -/

/-- Slot t has an entry in the list (R100). -/
def State.hasPublication (s : State) (t : Nat) : Bool := s.publications.any fun e => e.slot == t

/-- The list has room for a new entry of slot t: the slot has an entry to supersede, or there are fewer than 8
(R93, R100, R108). -/
def State.publicationRoom (s : State) (t : Nat) : Bool := s.hasPublication t || decide (s.publications.length < 8)

/-- A publication entry is created at the end of the list with a new sequence, superseding any entry of its slot;
its target is a free value (R100, R102; log 6). -/
def State.createPublication (s : State) (t : Nat) (kind : PubKind) (replay localRefusal : Bool)
    (payload : List Byte) : State :=
  let taken := s.takeSequence
  let target := taken.2.takeTarget
  target.2.withPublications ((s.publications.filter fun e => e.slot != t) ++
    [{ sequence := taken.1, kind := kind, slot := t, replay := replay, localRefusal := localRefusal, attempt := 1,
       onRing := false, sent := none, target := target.1, payload := payload }])

/-- The own message of an entry (R101). -/
def Publication.message (e : Publication) : OwnMessage :=
  { kind := e.kind.ownKind, sequence := e.sequence, target := e.target, payload := e.payload }

/-- The waiting entries are placed in list order, one per free place: the list after it, and the entries placed
(R101). -/
def placeInOrder (room : Nat) : List Publication → List Publication × List Publication
  | [] => ([], [])
  | e :: rest =>
    if e.onRing then
      let after := placeInOrder room rest
      (e :: after.1, after.2)
    else
      match room with
      | 0 => (e :: rest, [])
      | room + 1 =>
        let after := placeInOrder room rest
        ({ e with onRing := true, sent := none } :: after.1, e :: after.2)

/-- The first placement of an entry is counted *published* or *replays sent* (R101, R112). -/
def State.countPlaced (s : State) (e : Publication) : State :=
  if e.attempt = 1 then s.count (if e.replay then .replaysSent else .published) else s

/-- The publication unit places what it may place now (R101). -/
def State.placePublications (s : State) : State :=
  if s.controller.state.publishes then
    let placed := placeInOrder (8 - s.ring.sendQueue.length) s.publications
    let queued :=
      (s.withPublications placed.1).withRing
        { s.ring with sendQueue := s.ring.sendQueue ++ placed.2.map Publication.message }
    placed.2.foldl State.countPlaced queued
  else s

/-- The ring port reports the start of an own transmission by sequence and kind: the sent step of its entry becomes the
current step (R101, R133). Of two ON-RING entries of one sequence and kind both take it (log 23). -/
def State.recordSent (s : State) (kind : OwnKind) (sequence : Byte) : State :=
  s.withPublications (s.publications.map fun e =>
    if e.onRing && e.sequence == sequence && e.kind.ownKind == kind then { e with sent := some s.time.step } else e)

/-! ### Replay (R106, R107, R108) -/

/-- Mark a slot that is LIVE or RELEASING replay-pending. -/
def OriginSlot.mark (o : OriginSlot) : OriginSlot := if o.state = .idle then o else { o with replay := true }

/-- A JOIN's range meets the template of slot t (R106). -/
def NodeConfig.templateMeets (c : NodeConfig) (t base count : Nat) : Bool :=
  match c.template t with
  | some tpl => rangeMeets tpl.first.toNat tpl.last.toNat base count
  | none => false

/-- A JOIN from a peer marks the slots whose template range meets the joiner's range (R106). -/
def State.markForJoin (s : State) (base count : Nat) : State :=
  s.withOrigins (s.origins.mapIdx fun t o => if s.config.templateMeets t base count then o.mark else o)

/-- On entry to RING after an isolation every LIVE or RELEASING slot is marked (R107). -/
def State.markAll (s : State) : State := s.withOrigins (s.origins.map OriginSlot.mark)

/-- The cue that slot t publishes under its current revision and steps (R97, R108). -/
def cueOfTemplate (own : NodeId) (tpl : Template) (revision : Revision) (start : StepNo) (stop : Option StepNo) : Cue :=
  { origin := own, number := tpl.number, revision := revision, priority := tpl.priority, first := tpl.first,
    last := tpl.last, blend := tpl.blend, function := tpl.function, l0 := tpl.l0, l1 := tpl.l1, d := tpl.d,
    start := start, stop := stop, orphan := tpl.orphan }

/-- The replay feed at slot t (R108). -/
def State.feedSlot (s : State) (t : Nat) : State :=
  let o := s.originSlot t
  if !o.replay then s
  else
    match o.state, s.config.template t with
    | .idle, _ => s.setOriginSlot t { o with replay := false }
    | _, none => s
    | .live, some tpl =>
      if s.publicationRoom t then
        (s.setOriginSlot t { o with replay := false }).createPublication t .cue true false
          (cueOfTemplate s.ownId tpl o.revision (o.start.getD 0) o.stop).payload
      else s
    | .releasing, some tpl =>
      if s.publicationRoom t then
        (s.setOriginSlot t { o with replay := false }).createPublication t .release true false
          (releasePayload tpl.number o.revision (o.release.getD { step := 0, fade := 0 }))
      else s

/-- The replay feed takes every marked slot in template order, and the new entries are placed (R108, R101). -/
def State.feedReplays (s : State) : State := ((List.range 16).foldl State.feedSlot s).placePublications

/-! ### Starting and releasing (R88 to R93, R97 to R99) -/

/-- The outcome of a local admission is recorded in a slot (R99). -/
def OriginSlot.recordLocal (o : OriginSlot) (a : Admission) : OriginSlot :=
  { o with outcome := if a = .refused then .localRefused else .none, counts := none }

/-- An entry is created for an action and placed; when it supersedes one, an entry has left the list and the feed runs
after it (R97, R98, R100, R101, R102; log 14). -/
def State.publishAction (s : State) (t : Nat) (kind : PubKind) (a : Admission) (payload : List Byte) : State :=
  let created := s.createPublication t kind false (a == .refused) payload
  if s.hasPublication t then created.placePublications.feedReplays else created.placePublications

/-- A START of template t, at the captured step (R89, R92, R97). -/
def State.startTemplate (s : State) (t : Nat) (tpl : Template) (captured : StepNo) : State :=
  let o := s.originSlot t
  let revision := o.revision + 1
  let start := captured + tpl.lead.setWidth 32
  let stop := tpl.duration.map fun d => start + d.setWidth 32
  let cue := cueOfTemplate s.ownId tpl revision start stop
  let taken := s.takeCue cue true
  let slot : OriginSlot :=
    { o with state := .live, revision := revision, start := some start, stop := stop, release := none,
             replay := false }
  (taken.2.setOriginSlot t (slot.recordLocal taken.1)).publishAction t .cue taken.1 cue.payload

/-- A RELEASE of template t on a LIVE slot, at the captured step (R90, R92, R98). -/
def State.releaseTemplate (s : State) (t : Nat) (tpl : Template) (captured : StepNo) : State :=
  let o := s.originSlot t
  let fadeOut : FadeOut := { step := captured + tpl.lead.setWidth 32, fade := tpl.fade }
  let taken := s.takeRelease s.ownId tpl.number o.revision fadeOut true
  let slot : OriginSlot := { o with state := .releasing, release := some fadeOut, replay := false }
  (taken.2.setOriginSlot t (slot.recordLocal taken.1)).publishAction t .release taken.1
    (releasePayload tpl.number o.revision fadeOut)

/-- How an action is settled against the state of its slot (R89, R90, R91). -/
inductive Settled | start | release | ignored
  deriving DecidableEq, Repr

def settleAction (action : TriggerAction) (state : OriginState) : Settled :=
  match action, state with
  | .start, _ => .start
  | .release, .live => .release
  | .release, _ => .ignored
  | .toggle, .live => .release
  | .toggle, _ => .start

/-- An action of template t from a capture is settled: as a START, as a RELEASE, as ignored, or as lost (R88, R93). -/
def State.takeAction (s : State) (action : TriggerAction) (t : Nat) (capture : Capture) : State :=
  if !capture.isSet || s.controller.state == .clash then s.count .triggerLost
  else
    match settleAction action (s.originSlot t).state, s.config.template t with
    | .ignored, _ => s.count .triggerLost
    | _, none => s
    | .start, some tpl =>
      if s.publicationRoom t then s.startTemplate t tpl capture.step else s.count .triggerLost
    | .release, some tpl =>
      if s.publicationRoom t then s.releaseTemplate t tpl capture.step else s.count .triggerLost

/-! ### Returns (R103) -/

/-- The outcome that a matched return records in its slot (R103). -/
def OriginSlot.recordReturn (o : OriginSlot) (e : Publication) (seen refused : BitVec 6) : OriginSlot :=
  { o with
    outcome := if e.localRefusal then .localRefused else if refused = 0#6 then .delivered else .partially
    counts := some (seen, refused) }

/-- A returned message is matched by sequence and kind, its entry closes, its slot records the outcome, and the feed
runs. A return that matches no entry is dropped (R103). Of two entries of one sequence and kind the first in list order
is closed, which the spec leaves open (log 23). -/
def State.publicationReturn (s : State) (m : Message) : State :=
  let isMatch := fun (e : Publication) => e.sequence == m.sequence && some e.kind == pubKindOf m.kind
  match s.publications.find? isMatch with
  | none => s
  | some e =>
    let closed := s.withPublications (s.publications.eraseP isMatch)
    let recorded := closed.setOriginSlot e.slot ((s.originSlot e.slot).recordReturn e m.seen m.refused)
    (recorded.count (if m.refused = 0#6 then .delivered else .partially)).feedReplays

/-! ### The step boundary (R104, R109) -/

/-- An origin slot is brought up to the current step (R109). -/
def OriginSlot.atBoundary (o : OriginSlot) (n : StepNo) : OriginSlot :=
  let ended :=
    match o.stop with
    | some e => stepAtOrAfter n e
    | none => false
  let faded :=
    match o.release with
    | some r => stepAtOrAfter n r.over
    | none => false
  match o.state with
  | .idle => o
  | .live => if ended then { o with state := .idle, replay := false } else o
  | .releasing => if ended || faded then { o with state := .idle, replay := false } else o

/-- An entry has timed out: it is ON-RING and its sent step + circuit limit is at or before the current step (R104). -/
def Publication.timedOut (e : Publication) (limit : Nat) (n : StepNo) : Bool :=
  e.onRing &&
    match e.sent with
    | some sent => stepAtOrAfter n (sent + BitVec.ofNat 32 limit)
    | none => false

/-- A timed-out entry at attempt 1 or 2 waits to be placed again (R104). -/
def Publication.retry (e : Publication) : Publication :=
  { e with attempt := e.attempt + 1, onRing := false, sent := none }

/-- The third attempt has timed out: the slot records FAILED and *failed* is counted (R104). -/
def State.recordFailed (s : State) (e : Publication) : State :=
  (s.setOriginSlot e.slot { s.originSlot e.slot with outcome := .failed, counts := none }).count .failed

/-- The timeouts of R104, all of them, and the placing of the retries. -/
def State.timeOutPublications (s : State) : State :=
  let late := fun (e : Publication) => e.timedOut s.config.circuitLimit s.time.step
  let failed := s.publications.filter fun e => late e && decide (3 ≤ e.attempt)
  let kept :=
    (s.publications.filter fun e => !(late e && decide (3 ≤ e.attempt))).map fun e => if late e then e.retry else e
  (failed.foldl State.recordFailed (s.withPublications kept)).placePublications

end Sys2Proof.Machine
end

