-- ==== Sys2Proof/Machine/Pulse.lean ====
section
/-! DEFINITION. The pulse unit (chapter 4): the PWM counter, the cycle start, the release state, the outputs. -/

namespace Sys2Proof.Machine

/-! ### The counter (R66, R67, R68) -/

/-- PWM counts in one tick of 1 us: 64 MHz divided by the divider (R66). -/
def NodeConfig.countsPerTick (c : NodeConfig) : Nat := 64 / c.clockDivider

/-- Place in a CENTRE cycle: 0..4095 counting up, 4096..8189 counting down (R68). -/
def PulseUnit.centrePlace (p : PulseUnit) : Nat := if p.up then p.counter else 8190 - p.counter

/-- The counter moves k counts, k less than a cycle; a cycle start reached on the way is left due (R67, R68; log 17). -/
def PulseUnit.advance (p : PulseUnit) (mode : PwmMode) (k : Nat) : PulseUnit :=
  match mode with
  | .edge =>
    { p with counter := (p.counter + k) % 4096, up := true,
             cycleDue := p.cycleDue || decide (4096 ≤ p.counter + k) }
  | .centre =>
    let place := p.centrePlace + k
    let placeNow := place % 8190
    { p with counter := if placeNow < 4096 then placeNow else 8190 - placeNow
             up := decide (placeNow < 4096)
             cycleDue := p.cycleDue || decide (8190 ≤ place) }

/-- One tick of the PWM clock (R66). While HALTED the counter stays. -/
def State.tickPulse (s : State) : State :=
  if s.pulse.running then s.withPulse (s.pulse.advance s.config.pwmMode s.config.countsPerTick) else s

/-! ### The cycle start (R72, R73) -/

/-- The active set for the new cycle: in LIVE the pending set when fresh or zeroed, else unchanged (R72); in DARK zeros
(R73). -/
def PulseUnit.takeCycleStart (p : PulseUnit) : PulseUnit :=
  if p.live then
    { p with active := if p.fresh || p.zeroed then p.pending else p.active,
             fresh := false, zeroed := false, cycleDue := false }
  else
    { p with active := List.replicate 64 0, fresh := false, zeroed := true, cycleDue := false }

/-! ### Release and restart (R75, R76) -/

/-- A report of RING or ISOLATED releases the outputs (R75). -/
def State.releaseOutputs (s : State) : State := s.withPulse { s.pulse with live := true }

/-- The pulse unit at a restart (R65, R71, R76). -/
def PulseUnit.restart (p : PulseUnit) : PulseUnit :=
  { p with running := true, pending := List.replicate 64 0, fresh := false, live := false }

/-! ### The outputs (R69, R70) -/

/-- The output of offset i at the present count (R66, R69, R70). -/
def PulseUnit.output (p : PulseUnit) (c : NodeConfig) (i : Nat) : Bool :=
  let u := p.active.getD i 0
  if !p.running then false
  else if u = 0 then false
  else if u = 4095 then true
  else
    match c.pwmMode with
    | .edge => decide ((p.counter + 4096 - i * c.stagger) % 4096 < u)
    | .centre => decide (4095 - u ≤ p.counter)

end Sys2Proof.Machine
end

