-- ==== Sys2Proof/Machine/Controller.lean ====
section
/-! DEFINITION. The node controller (chapter 9): changes of node state, JOIN, integrity monitor, stray echoes, restart. -/

namespace Sys2Proof.Machine

/-! ### JOIN (R159) -/

/-- The JOIN fields of a stay in ADMIT that has ended (R161, R164). -/
def Controller.clearJoin (c : Controller) : Controller :=
  { c with joinAttempt := 0, joinSequences := [], joinSent := none, joinWaiting := false }

/-- A JOIN is built and placed, or waits for room (R159). -/
def State.placeJoin (s : State) : State :=
  if s.queueRoom then
    let taken := s.takeSequence
    let target := taken.2.takeTarget
    let queued := target.2.enqueue
      { kind := .join, sequence := taken.1, target := target.1, payload := s.config.announcement }
    (queued.withController
      { s.controller with joinSequences := s.controller.joinSequences ++ [taken.1], joinWaiting := false }).count
      .joinAttempts
  else s.withController { s.controller with joinWaiting := true }

/-- Entry to ADMIT (R159). -/
def State.enterAdmission (s : State) : State :=
  (s.withController { s.controller.clearJoin with state := .admitting, joinAttempt := 1 }).placeJoin

/-- The publication unit is told that it may place its waiting entries (R101); they are left due (log 5). -/
def State.reportEntries (s : State) : State := s.withDue { s.due with entries := true }

/-- Entry to RING (R161): JOIN fields cleared, outputs released, marks when the node has been isolated, waiting entries
placed. -/
def State.enterRing (s : State) : State :=
  let entered := (s.withController { s.controller.clearJoin with state := .ring }).releaseOutputs
  (if s.controller.wasIsolated then entered.markAll else entered).reportEntries

/-- Entry to ISOLATED (R164). -/
def State.enterIsolated (s : State) : State :=
  let entered := s.withController { s.controller.clearJoin with state := .isolated, wasIsolated := true }
  (entered.count .isolations).recordIsolation.releaseOutputs.reportEntries

/-- Departure from ISOLATED to ADMIT (R165). -/
def State.readmit (s : State) : State := s.endIsolation.enterAdmission

/-- Entry to CLASH (R167): the other fields of the controller keep their values. -/
def State.enterClash (s : State) : State :=
  let left := if s.controller.state = .isolated then s.endIsolation else s
  left.withController { left.controller with state := .clash }

/-- The stay in LISTEN ends: the timebase is set where it stands if it is unset, and the node enters ADMIT
(R56, R158). Where the link is still in PASS-THROUGH, no upstream IDLE having come, that the JOIN of R159 joins the send
queue, which R118 says stays empty there, is the model's choice; it is not granted until the mode turns (log 25). -/
def State.endListen (s : State) : State := (s.withTime { s.time with isSet := true }).enterAdmission

/-! ### The integrity monitor (R162, R163) -/

/-- The start of an own transmission is watched when no watch is present (R162). -/
def State.startWatch (s : State) : State :=
  if s.controller.state.sendsOwn && s.controller.watch.isNone then
    s.withController { s.controller with watch := some s.time.step }
  else s

/-- A return clears the miss count and the watch (R163). -/
def State.monitorReturn (s : State) : State :=
  if s.controller.state.sendsOwn then s.withController { s.controller with missCount := 0, watch := none } else s

/-- The watch is past its circuit limit (R163). -/
def State.watchExpired (s : State) : Bool :=
  match s.controller.watch with
  | some w => stepAtOrAfter s.time.step (w + BitVec.ofNat 32 s.config.circuitLimit)
  | none => false

/-- The expiry of the watch, if it is past its limit (R163, R164). -/
def State.expireWatch (s : State) : State :=
  if s.controller.state.sendsOwn && s.watchExpired then
    let missed := s.withController
      { s.controller with missCount := min 2 (s.controller.missCount + 1), watch := none }
    if s.controller.state = .ring ∧ missed.controller.missCount = 2 then missed.enterIsolated else missed
  else s

/-! ### The JOIN wait (R160) -/

/-- The start of the transmission of a JOIN of the current stay in ADMIT records the JOIN sent step (R160). -/
def State.recordJoinSent (s : State) (kind : OwnKind) (sequence : Byte) : State :=
  if kind = .join ∧ s.controller.joinSequences.contains sequence then
    s.withController { s.controller with joinSent := some s.time.step }
  else s

/-- The JOIN sent is past its circuit limit (R160). -/
def State.joinExpired (s : State) : Bool :=
  match s.controller.joinSent with
  | some sent => stepAtOrAfter s.time.step (sent + BitVec.ofNat 32 s.config.circuitLimit)
  | none => false

/-- The JOIN wait is judged in ADMIT: a further attempt, or ISOLATED after the third (R160). -/
def State.judgeJoin (s : State) : State :=
  if s.controller.state = .admitting ∧ s.joinExpired then
    if s.controller.joinAttempt < 3 then
      (s.withController
        { s.controller with joinAttempt := s.controller.joinAttempt + 1, joinSent := none }).placeJoin
    else s.enterIsolated
  else s

/-- A JOIN that waits for room in ADMIT is placed when there is room (R159). -/
def State.placeWaitingJoin (s : State) : State :=
  if s.controller.state = .admitting ∧ s.controller.joinWaiting ∧ s.queueRoom then s.placeJoin else s

/-! ### Returns and stray echoes (R120, R161, R165, R166) -/

/-- What a return does to the node state: the return of a JOIN of this stay admits the node (R161), any return in
ISOLATED readmits it (R165). -/
def State.controllerReturn (s : State) (sequence : Byte) : State :=
  match s.controller.state with
  | .admitting => if s.controller.joinSequences.contains sequence then s.enterRing else s
  | .isolated => s.readmit
  | .loading | .unconfigured | .listen | .ring | .clash => s

/-- A stray echo is counted and judged: after the grace an age of 0 joins the list, and a third age is a clash
(R120, R166, R167). -/
def State.strayEcho (s : State) : State :=
  let counted := s.count .strayEcho
  if s.controller.state.sendsOwn ∧ s.controller.grace = 0 then
    let listed := counted.withController { s.controller with strayAges := s.controller.strayAges ++ [0] }
    if 3 ≤ listed.controller.strayAges.length then listed.enterClash else listed
  else counted

/-- Ages that reach 8 beacon intervals leave the list (R166). -/
def State.expireStrayAges (s : State) : State :=
  s.withController
    { s.controller with
      strayAges := s.controller.strayAges.filter fun age => decide (age < 8 * s.config.beaconInterval) }

/-! ### Restart (R168, R169) -/

/-- The node controller after a restart (R152). -/
def Controller.restart (limit : Nat) : Controller := { Controller.reset with state := .listen, grace := limit }

/-- The ring port after a restart (R136). -/
def RingPort.restart (r : RingPort) : RingPort := { r with sendQueue := [], recent := [], guardCount := 0 }

/-- A restart acts on every block at one moment (R169). A boundary of LISTEN whose end of LISTEN is still due has not
been taken by the node controller: the restart comes first, and the boundary counts 1 in the listen count (R170). It
leaves the new grace at the circuit limit, which the spec leaves open (R166, R170; log 5). -/
def State.doRestart (s : State) : State :=
  let aborted := s.abortPass
  { aborted with
    time := { Timebase.reset with running := true }
    table := List.replicate 48 .free
    composer := Composer.reset
    pulse := s.pulse.restart
    origins := List.replicate 16 OriginSlot.reset
    publications := []
    ring := s.ring.restart
    roster := []
    controller :=
      { Controller.restart s.config.circuitLimit with listenCount := if s.due.listenEnd then 1 else 0 }
    responder := Responder.reset
    due := Due.none }

/-- A restart is performed, except in CLASH (R168). -/
def State.performRestart (s : State) : State :=
  match s.controller.state with
  | .listen | .admitting | .ring | .isolated => s.doRestart
  | .clash | .loading | .unconfigured => s

/-- The responder reports a RESTART whose ANSWER was placed with sequence `sequence` (R168). -/
def State.requestRestart (s : State) (sequence : Byte) : State :=
  if s.controller.state = .clash ∨ s.controller.restartPending.isSome then s
  else s.withController { s.controller with restartPending := some sequence }

/-- The end of the transmission of an own ANSWER is reported: the restart that waits for it is performed (R168). -/
def State.answerEnded (s : State) (sequence : Byte) : State :=
  if s.controller.restartPending = some sequence then s.performRestart else s

end Sys2Proof.Machine
end

