-- ==== Sys2Proof/Machine/Roster.lean ====
section
/-! DEFINITION. The roster (chapter 8): who has been heard, in what order, and who is compatible. -/

namespace Sys2Proof.Machine

/-- The entry of an id (R139). -/
def State.peer (s : State) (o : NodeId) : Option Peer := s.roster.find? fun p => p.id == o

/-- The compatible flag, derived from the announced step length (R143). -/
def Peer.compatible (p : Peer) (ownLength : Nat) : Bool :=
  match p.stepLength with
  | none => true
  | some l => l.toNat == ownLength

/-- Whether content and stamps of a sender are judged as from a compatible one. The own id has no entry and counts as
compatible (R13, R61, R143). -/
def State.senderCompatible (s : State) (o : NodeId) : Bool :=
  match s.peer o with
  | none => true
  | some p => p.compatible s.config.stepLength

/-- Entry a stands before entry b: hop distance, then id (R145). -/
def Peer.before (a b : Peer) : Bool :=
  if a.hop ≠ b.hop then a.hop.toNat < b.hop.toNat else a.id.toNat < b.id.toNat

/-- An entry takes its place in the order (R145). -/
def insertPeer (p : Peer) : List Peer → List Peer
  | [] => [p]
  | x :: rest => if p.before x then p :: x :: rest else x :: insertPeer p rest

/-- The roster without the entry of an id; the gap closes (R145). -/
def removePeer (o : NodeId) (roster : List Peer) : List Peer := roster.filter fun p => p.id != o

/-- What a BEACON or JOIN payload announces, taken into an entry value by value (R142). -/
def Peer.takeAnnouncement (p : Peer) (payload : List Byte) : Peer :=
  let base := word16At payload 0
  let count := byteAt payload 2
  let interval := byteAt payload 5
  { p with
    range :=
      if 1 ≤ count.toNat ∧ count.toNat ≤ 64 ∧ base.toNat + count.toNat ≤ 16384 then some (base, count) else p.range
    stepLength := some (word16At payload 3)
    interval := if 4 ≤ interval.toNat ∧ interval.toNat ≤ 64 then some interval else p.interval }

/-- A new entry, with nothing announced yet (R140). -/
def newPeer (o : NodeId) (hop : BitVec 6) (step : StepNo) : Peer :=
  { id := o, hop := hop, range := none, stepLength := none, interval := none, firstHeard := step, lastHeard := step,
    silence := 0, silent := false }

/-- An entry refreshed by a message (R141). -/
def Peer.refresh (p : Peer) (hop : BitVec 6) (step : StepNo) : Peer :=
  { p with hop := hop, lastHeard := step, silence := 0, silent := false }

/-- The message announces: it is a BEACON or JOIN whose content is handed on (R142). -/
def Message.announces (m : Message) : Bool := (m.kind == 1#4 || m.kind == 2#4) && m.lengthAllowed

/-- The message is a JOIN, which the roster takes under R144 whatever its length (R139; log 12). -/
def Message.rejoins (m : Message) : Bool := m.kind == 2#4

/-- The entry of a message's origin after the roster has taken the message (R140, R141, R142, R144). -/
def State.peerAfter (s : State) (m : Message) : Peer :=
  let fresh := newPeer m.origin m.hop s.time.step
  let entry :=
    match s.peer m.origin with
    | none => fresh
    | some p => if m.rejoins then fresh else p.refresh m.hop s.time.step
  if m.announces then entry.takeAnnouncement m.payload else entry

/-- The roster takes an accepted message of known kind, with its hop count as incremented here. The node's own id is
never entered (R139). -/
def State.rosterTake (s : State) (m : Message) : State :=
  if m.origin = s.ownId then s
  else s.withRoster (insertPeer (s.peerAfter m) (removePeer m.origin s.roster))

/-! ### Silence and removal (R146, R147) -/

/-- The beacon interval that governs an entry (R146). -/
def Peer.limitInterval (p : Peer) (own : Nat) : Nat :=
  match p.interval with
  | some i => i.toNat
  | none => own

/-- The gone limit is reached (R146). -/
def Peer.gone (p : Peer) (own : Nat) : Bool := 8 * p.limitInterval own ≤ p.silence

/-- The silent limit is reached and the gone limit is not (R146). -/
def Peer.fallsSilent (p : Peer) (own : Nat) : Bool :=
  !p.silent && decide (3 * p.limitInterval own ≤ p.silence) && !p.gone own

/-- One boundary of silence is counted for every entry (R146). -/
def State.ageRoster (s : State) : State :=
  s.withRoster (s.roster.map fun p => { p with silence := p.silence + 1 })

/-- Entries at their silent limit become SILENT (R146). -/
def State.markSilent (s : State) : State :=
  s.withRoster (s.roster.map fun p =>
    if p.fallsSilent s.config.beaconInterval then { p with silent := true } else p)

/-- Entries at their gone limit are removed, each with its orphan drop (R147). -/
def State.removeGone (s : State) : State :=
  let gone := s.roster.filter fun p => p.gone s.config.beaconInterval
  let kept := s.roster.filter fun p => !p.gone s.config.beaconInterval
  (gone.map Peer.id).foldl State.dropOrphans (s.withRoster kept)

/-- The ring-size estimate: one more than the largest hop distance among the PRESENT entries (R149). -/
def State.ringSize (s : State) : Nat :=
  1 + ((s.roster.filter fun p => !p.silent).map fun p => p.hop.toNat).foldl max 0

end Sys2Proof.Machine
end

