-- ==== Sys2Proof/Machine/Responder.lean ====
section
/-! DEFINITION. The beacon and request responder (chapter 10): beacons, the judging of requests, answers and their data. -/

namespace Sys2Proof.Machine

/-! ### Beacons (R175, R176) -/

/-- The payload of a BEACON, read now (R175, R189). -/
def State.beaconPayload (s : State) : List Byte :=
  s.config.announcement ++
    [s.controller.state.code, BitVec.ofNat 8 (liveCount s.table), BitVec.ofNat 8 (tombstoneCount s.table),
     BitVec.ofNat 8 s.publications.length] ++
    be16 s.counters.jump ++
    [0#5 ++ boolBit s.responder.lateSeen ++ boolBit s.responder.refusalSeen ++ boolBit s.responder.overflowSeen,
     0, 0, 0]

/-- A BEACON that is due is placed, with the flags cleared, or skipped and counted; the countdown becomes the beacon
interval (R174, R176). -/
def State.sendBeacon (s : State) : State :=
  let counted := s.withResponder { s.responder with countdown := s.config.beaconInterval }
  if s.queueRoom then
    let taken := counted.takeSequence
    let target := taken.2.takeTarget
    let queued := target.2.enqueue
      { kind := .beacon, sequence := taken.1, target := target.1, payload := s.beaconPayload }
    queued.withResponder
      { countdown := s.config.beaconInterval, lateSeen := false, refusalSeen := false, overflowSeen := false }
  else counted.count .beaconSkipped

/-! ### Requests (R178) -/

/-- The seven selectors (R189). -/
inductive Selector | readStatus | readCounters | readCue | readPeer | readChannel | clearCounters | restart
  deriving DecidableEq, Repr

def Selector.ofCode (c : Byte) : Option Selector :=
  match c.toNat with
  | 1 => some .readStatus
  | 2 => some .readCounters
  | 3 => some .readCue
  | 4 => some .readPeer
  | 5 => some .readChannel
  | 6 => some .clearCounters
  | 7 => some .restart
  | _ => none

/-- Result codes (R189). -/
inductive ResultCode | ok | badSelector | badIndex | notReady
  deriving DecidableEq, Repr

def ResultCode.code : ResultCode → Byte
  | .ok => 0
  | .badSelector => 1
  | .badIndex => 2
  | .notReady => 3

/-- The index range of a selector (R178). -/
def Selector.indexInRange (sel : Selector) (i : Nat) : Bool :=
  match sel with
  | .readStatus => i ≤ 24
  | .readCounters => i ≤ 3
  | .readCue => i ≤ 47 || (64 ≤ i && i ≤ 111)
  | .readPeer => i ≤ 61
  | .readChannel => i ≤ 63
  | .clearCounters => true
  | .restart => true

/-- The selector acts on the node instead of reading it (R178). -/
def Selector.acts : Selector → Bool
  | .clearCounters => true
  | .restart => true
  | .readStatus => false
  | .readCounters => false
  | .readCue => false
  | .readPeer => false
  | .readChannel => false

/-- What becomes of a REQUEST (R124, R178). -/
inductive Judgement
  | notForUs
  | ignored
  | answered (r : ResultCode)
  | acted
  deriving DecidableEq, Repr

/-- The table of R178, with the target judged by R124 first. -/
def State.judgeRequest (s : State) (m : Message) : Judgement :=
  let selector := Selector.ofCode (byteAt m.payload 0)
  let index := (byteAt m.payload 1).toNat
  if m.target = 63#6 then
    match selector with
    | some sel => if sel.acts then .acted else .ignored
    | none => .ignored
  else if m.target ≠ s.ownId then .notForUs
  else
    match selector with
    | none => .answered .badSelector
    | some sel =>
      if !sel.indexInRange index then .answered .badIndex
      else if sel = .readChannel ∧ !s.time.isSet then .answered .notReady
      else .acted

/-! ### Answers (R179) -/

/-- An ANSWER to request m is placed, or lost and counted: the sequence it took, if any, and the node after it
(R179). In CLASH every ANSWER is lost, so the report to a control node that R110 speaks of never leaves: the model
follows R179 (log 22). -/
def State.placeAnswer (s : State) (m : Message) (r : ResultCode) (data : List Byte) : Option Byte × State :=
  if s.controller.state.sendsOwn && s.queueRoom then
    let taken := s.takeSequence
    (some taken.1,
      taken.2.enqueue
        { kind := .answer, sequence := taken.1, target := m.origin,
          payload := [m.sequence, byteAt m.payload 0, r.code] ++ data })
  else (none, s.count .answerLost)

/-! ### Answer data (R180 to R182, R190) -/

def optionStep : Option StepNo → List Byte
  | some x => be32 x
  | none => be32 0

def OriginState.code : OriginState → BitVec 2
  | .idle => 0
  | .live => 1
  | .releasing => 2

def PublishOutcome.code : PublishOutcome → BitVec 4
  | .none => 0
  | .delivered => 1
  | .partially => 2
  | .failed => 3
  | .localRefused => 4

/-- Four origin slots in one byte, the lowest-numbered in bits 7..6 (R190). -/
def State.slotStates (s : State) (t : Nat) : Byte :=
  (s.originSlot t).state.code ++ (s.originSlot (t + 1)).state.code ++ (s.originSlot (t + 2)).state.code ++
    (s.originSlot (t + 3)).state.code

/-- The filtered levels of the eight inputs; bit i is input i (R190). -/
def TriggerUnit.levels (u : TriggerUnit) : Byte :=
  let bit := fun i => boolBit ((u.inputs.map TriggerInput.level).getD i false)
  bit 7 ++ bit 6 ++ bit 5 ++ bit 4 ++ bit 3 ++ bit 2 ++ bit 1 ++ bit 0

/-- READ STATUS, index 0 (R180, R190). -/
def State.statusData (s : State) : List Byte :=
  [s.controller.state.code,
   boolBit s.time.isSet ++ boolBit s.pulse.live ++ boolBit s.controller.restartPending.isSome ++ 0#5] ++
  be32 s.time.step ++
  [BitVec.ofNat 8 s.ringSize, BitVec.ofNat 8 s.roster.length, BitVec.ofNat 8 (liveCount s.table),
   BitVec.ofNat 8 (tombstoneCount s.table), BitVec.ofNat 8 s.publications.length, s.trigger.levels,
   BitVec.ofNat 2 s.controller.missCount ++ BitVec.ofNat 2 s.controller.strayAges.length ++ 0#2 ++
     BitVec.ofNat 2 s.controller.joinAttempt,
   s.slotStates 0, s.slotStates 4, s.slotStates 8, s.slotStates 12]

/-- READ STATUS, index 1..16: origin slot t (R180, R190). -/
def State.slotData (s : State) (t : Nat) : List Byte :=
  let o := s.originSlot t
  let entry := s.publications.find? fun e => e.slot == t
  let counts := o.counts.getD (0, 0)
  let fadeOut := o.release.getD { step := 0, fade := 0 }
  [o.state.code ++ 0#2 ++ o.revision,
   boolBit o.stop.isSome ++ boolBit o.release.isSome ++ boolBit o.replay ++ boolBit o.counts.isSome ++
     boolBit entry.isSome ++ boolBit (entry.any fun e => e.kind == .release) ++
     boolBit (entry.any fun e => e.onRing) ++ 0#1,
   o.outcome.code ++ 0#2 ++ BitVec.ofNat 2 ((entry.map Publication.attempt).getD 0)] ++
  optionStep o.start ++ optionStep o.stop ++ be32 fadeOut.step ++ be16 fadeOut.fade ++
  [0#2 ++ counts.1, 0#2 ++ counts.2]

/-- READ STATUS, index 17..24: trigger input i (R180, R190). -/
def State.inputData (s : State) (i : Nat) : List Byte :=
  let input := s.trigger.inputs.getD i { level := false, count := 0, capture := none }
  match input.capture with
  | none => [boolBit input.level ++ 0#1 ++ BitVec.ofNat 2 input.count ++ 0#4] ++ be32 0 ++ be16 0
  | some c =>
    [boolBit input.level ++ 0#1 ++ BitVec.ofNat 2 input.count ++ 1#1 ++ boolBit (c.edge == .fall) ++
       boolBit c.isSet ++ 0#1] ++ be32 c.step ++ be16 (BitVec.ofNat 16 c.phase)

/-- READ STATUS (R180). -/
def State.readStatusData (s : State) (i : Nat) : List Byte :=
  if i = 0 then s.statusData else if i ≤ 16 then s.slotData (i - 1) else s.inputData (i - 17)

/-- READ COUNTERS of group g (R181, R185, R190). -/
def State.readCountersData (s : State) (g : Nat) : List Byte :=
  (Counter.group g).flatMap fun k => be16 (s.counters.get k)

def EntryPhase.code : EntryPhase → BitVec 2
  | .pending => 0
  | .active => 1
  | .fading => 2

/-- READ CUE: slot and part by the index (R182, R190). -/
def State.readCueData (s : State) (i : Nat) : List Byte :=
  let part2 := decide (64 ≤ i)
  match s.table.getD (if part2 then i - 64 else i) .free with
  | .free => [0]
  | .tombstone t =>
    [2, 0#2 ++ t.origin, t.number, t.revision ++ 0#4] ++ (if part2 then be32 t.step else [])
  | .live e =>
    let q := e.cue
    if part2 then
      let fadeOut := e.release.getD { step := 0, fade := 0 }
      [1, 0#2 ++ q.origin, q.number, q.revision ++ e.phase.code ++ 0#1 ++ boolBit e.late,
       boolBit q.stop.isSome ++ boolBit e.release.isSome ++ 0#6] ++
      be32 q.start ++ optionStep q.stop ++ be32 fadeOut.step ++ be16 fadeOut.fade ++ be32 e.arrival
    else
      [1, 0#2 ++ q.origin, q.number, q.revision ++ q.priority] ++ q.rangeBytes ++ be16 q.d ++
      [q.orphan.bit ++ 0#7]

/-- READ PEER at position x (R182, R190). -/
def State.readPeerData (s : State) (x : Nat) : List Byte :=
  match s.roster[x]? with
  | none => [0, BitVec.ofNat 8 s.roster.length]
  | some p =>
    let range := p.range.getD (0, 0)
    [1, 0#2 ++ p.id, 0#2 ++ p.hop,
     boolBit p.silent ++ boolBit (p.compatible s.config.stepLength) ++ boolBit p.range.isSome ++
       boolBit p.stepLength.isSome ++ boolBit p.interval.isSome ++ 0#3] ++
    be32 p.firstHeard ++ be32 p.lastHeard ++ be16 (BitVec.ofNat 16 p.silence) ++ be16 range.1 ++ [range.2] ++
    be16 (p.stepLength.getD 0) ++ [p.interval.getD 0]

/-- READ CHANNEL of an offset (R181, R190). -/
def State.readChannelData (s : State) (i : Nat) : List Byte :=
  let c := s.composer.record.getD i { level := 0, duty := 0 }
  if i < s.config.channelCount then
    be16 (BitVec.ofNat 16 (s.config.channelBase + i)) ++ be16 (BitVec.ofNat 16 c.level) ++
      be16 (BitVec.ofNat 16 c.duty)
  else be16 0xFFFF#16 ++ be16 0 ++ be16 0

end Sys2Proof.Machine
end

