-- ==== Sys2Proof/Machine/Trigger.lean ====
section
/-! DEFINITION. The trigger unit (chapter 5): the filter, edges and captures, and the actions that bindings yield. -/

namespace Sys2Proof.Machine

/-! ### The filter (R83) -/

/-- One input is updated from its new sample (R83). -/
def TriggerInput.sample (x : TriggerInput) (line : Bool) : TriggerInput :=
  if line = x.level then { x with count := 0 }
  else if x.count < 3 then { x with count := x.count + 1 }
  else { x with level := line, count := 0 }

/-- The filtered edge that a sample makes (R83, R84). -/
def TriggerInput.edge (x : TriggerInput) (line : Bool) : Option Edge :=
  if line = x.level then none
  else if x.count < 3 then none
  else some (if line then .rise else .fall)

/-- The capture of an edge, read from the timebase as it stands (R62, R84). -/
def Timebase.capture (t : Timebase) (e : Edge) : Capture :=
  { edge := e, step := t.step, phase := t.phase, isSet := t.isSet }

/-- One input after a sample, with its last capture (R83, R84). -/
def TriggerInput.afterSample (x : TriggerInput) (line : Bool) (t : Timebase) : TriggerInput :=
  match x.edge line with
  | none => x.sample line
  | some e => { x.sample line with capture := some (t.capture e) }

/-- All eight inputs are sampled together; the countdown starts again (R82, R83, R84). -/
def State.takeSample (s : State) (levels : BitVec 8) : State :=
  s.withTrigger
    { s.trigger with
      countdown := s.config.sampleInterval
      inputs := s.trigger.inputs.mapIdx fun i x => x.afterSample (levels.getLsbD i) s.time
      lines := levels }

/-- The edges of a sample, in ascending input number (R87). -/
def TriggerUnit.edges (u : TriggerUnit) (levels : BitVec 8) : List (Nat × Edge) :=
  (u.inputs.mapIdx fun i x => (x.edge (levels.getLsbD i)).map fun e => (i, e)).filterMap id

/-! ### Bindings (R86, R87) -/

/-- The edge field of a binding answers an edge (R87). -/
def BindingEdge.answers : BindingEdge → Edge → Bool
  | .rise, .rise => true
  | .rise, .fall => false
  | .fall, .rise => false
  | .fall, .fall => true
  | .both, _ => true

/-- The bindings that an edge fires, in binding order (R87). -/
def NodeConfig.fired (c : NodeConfig) (input : Nat) (e : Edge) : List Binding :=
  (c.bindings.filterMap id).filter fun b => b.input == input && b.edge.answers e

/-- The actions of a sample, edge by edge and binding by binding, each with its capture (R87, R88). -/
def State.firedActions (s : State) (levels : BitVec 8) : List (Binding × Capture) :=
  (s.trigger.edges levels).flatMap fun ie => (s.config.fired ie.1 ie.2).map fun b => (b, s.time.capture ie.2)

/-- The actions are taken one after another (R88). -/
def State.takeActions (s : State) (actions : List (Binding × Capture)) : State :=
  actions.foldl (fun s a => s.takeAction a.1.action a.1.template a.2) s

/-- One tick of the sample countdown, which a tick never takes below 0 (R82). -/
def State.tickTrigger (s : State) : State :=
  if s.trigger.running then s.withTrigger { s.trigger with countdown := s.trigger.countdown - 1 } else s

/-- A sample is due: sampling runs and its countdown is over (R82). -/
def State.sampleDue (s : State) : Bool := s.trigger.running && s.trigger.countdown == 0

end Sys2Proof.Machine
end

