-- ==== Sys2Proof/Machine/Boundary.lean ====
section
/-! DEFINITION. The step boundary as every block takes it (R48), the work it leaves due, and the finishing of that
work (log 5). -/

namespace Sys2Proof.Machine

/-! ### What a boundary does at once -/

/-- The node controller at a boundary: the listen count within its 8 bits (R152), the ages and the grace (R158, R166). -/
def Controller.atBoundary (c : Controller) : Controller :=
  { c with
    listenCount := if c.state = .listen then min 255 (c.listenCount + 1) else c.listenCount
    strayAges := if c.state.strips then c.strayAges.map (· + 1) else c.strayAges
    grace := if c.state.strips then c.grace - 1 else c.grace }

/-- The responder at a boundary counted in RING or ISOLATED (R174, step 1). -/
def Responder.atBoundary (r : Responder) (n : NodeState) : Responder :=
  if n.publishes then { r with countdown := r.countdown - 1 } else r

/-- The marks that a boundary leaves for the blocks, in the node state that takes it (log 5). The mark of the tombstones
is the pass start's. -/
def State.markDue (s : State) : State :=
  s.withDue
    { s.due with
      peerSilent := true
      peerGone := true
      publications := s.due.publications || s.time.isSet
      joinExpiry := s.due.joinExpiry || s.controller.state == .admitting
      joinPlace := s.due.joinPlace || s.controller.state == .admitting
      watch := s.due.watch || s.controller.state.sendsOwn
      listenEnd := s.due.listenEnd || s.controller.state == .listen
      strayAges := s.due.strayAges || s.controller.state.strips
      beacon := s.due.beacon || (s.controller.state.publishes && s.responder.countdown == 0) }

/-- A step boundary carrying the present step number (R48): a pass starts when the timebase is set (R29), the roster
counts it (R146), the publication unit ends its slots when the timebase is set (R109), the node controller and the
responder count it (R158, R166, R174), and the rest is left due. -/
def State.boundary (s : State) : State :=
  let passed := if s.time.isSet && s.controller.state.takesPart then s.startPass s.time.step else s
  let aged := passed.ageRoster
  let ended :=
    if s.time.isSet then aged.withOrigins (aged.origins.map fun o => o.atBoundary s.time.step) else aged
  let counted :=
    (ended.withController ended.controller.atBoundary).withResponder
      (ended.responder.atBoundary ended.controller.state)
  counted.markDue

/-- The boundary that sets the timebase: the tombstones are restamped before the pass start's work (R25, R55). -/
def State.settingBoundary (s : State) : State :=
  (s.withTable (s.table.map (restampTombstone s.time.step))).boundary

/-! ### The work left due, one mark each -/

/-- R24. -/
def State.takeTombstones (s : State) : State :=
  if s.due.tombstones then
    (s.withTable (s.table.map (freeOldTombstone s.time.step))).withDue { s.due with tombstones := false }
  else s

/-- R146. -/
def State.takePeerSilent (s : State) : State :=
  if s.due.peerSilent then (s.withDue { s.due with peerSilent := false }).markSilent else s

/-- R147. -/
def State.takePeerGone (s : State) : State :=
  if s.due.peerGone then (s.withDue { s.due with peerGone := false }).removeGone else s

/-- R104, then the replay feed of R108 (R109). Both end with the placing of what waits (R101), which so comes before what
else may take a free place and is finished later (R129; log 5). -/
def State.takePublications (s : State) : State :=
  if s.due.publications then (s.withDue { s.due with publications := false }).timeOutPublications.feedReplays else s

/-- R160. -/
def State.takeJoinExpiry (s : State) : State :=
  if s.due.joinExpiry then (s.withDue { s.due with joinExpiry := false }).judgeJoin else s

/-- R159: a waiting JOIN is tried, after the JOIN wait has been judged (R160). -/
def State.takeJoinPlace (s : State) : State :=
  if s.due.joinPlace then
    let judged := s.takeJoinExpiry
    (judged.withDue { judged.due with joinPlace := false }).placeWaitingJoin
  else s

/-- R163. -/
def State.takeWatch (s : State) : State :=
  if s.due.watch then (s.withDue { s.due with watch := false }).expireWatch else s

/-- R158: LISTEN ends when the listen count has reached the listen length; that it has is known for the rest of this
moment (R170). -/
def State.takeListenEnd (s : State) : State :=
  if s.due.listenEnd then
    if s.controller.state = .listen ∧ s.config.listenLength ≤ s.controller.listenCount then
      (s.withDue { s.due with listenEnd := false, listenEnded := true }).endListen
    else s.withDue { s.due with listenEnd := false }
  else s

/-- R166. -/
def State.takeStrayAges (s : State) : State :=
  if s.due.strayAges then
    let taken := s.withDue { s.due with strayAges := false }
    if s.controller.state.strips then taken.expireStrayAges else taken
  else s

/-- R174, step 2. -/
def State.takeBeacon (s : State) : State :=
  if s.due.beacon then
    let taken := s.withDue { s.due with beacon := false }
    if s.controller.state.publishes then taken.sendBeacon else taken
  else s

/-- R101: a report of room, or of an entry to RING or ISOLATED. -/
def State.takeEntries (s : State) : State :=
  if s.due.entries then (s.withDue { s.due with entries := false }).placePublications else s

/-! ### Finishing the work left due (log 5) -/

/-- What a boundary leaves to be done before any other event is taken, in a default order. The end of LISTEN is not in
it, which a RESTART may come before (R170), nor are the placings, which another message may come before (R129). -/
def State.settleBoundary (s : State) : State :=
  s.takeTombstones.takePeerSilent.takePeerGone.takePublications.takeJoinExpiry.takeWatch.takeStrayAges.takeBeacon

/-- A boundary is finished, but for the placing of what waits for room: either producer may take one free place first
(R129, R101, R176). -/
def State.settleMoment (s : State) : State := s.settleBoundary.takeListenEnd

/-- The moment of the boundary is over: a RESTART that comes now no longer falls at the end of LISTEN (R170; log 5). -/
def State.endMoment (s : State) : State := s.withDue { s.due with listenEnded := false }

/-- All the work left due is finished, and the moment is over: what waits for room is placed at the latest here. -/
def State.settle (s : State) : State := s.settleMoment.takeJoinPlace.takeEntries.endMoment

end Sys2Proof.Machine
end

