-- ==== Sys2Proof/Machine/Timebase.lean ====
section
/-! DEFINITION. Shared time (chapter 3): the ordinary advance, the estimate, adoption, and the oscillator's tick. -/

namespace Sys2Proof.Machine

/-! ### The advance (R47) -/

/-- The trim bound B (R46). -/
def NodeConfig.trimBound (c : NodeConfig) : Nat := c.stepLength / 8

/-- An ordinary advance: phase 0, the step number one on, trim used 0, and one boundary (R47). -/
def State.advanceStep (s : State) : State :=
  (s.withTime { s.time with step := s.time.step + 1, phase := 0, trimUsed := 0 }).boundary

/-! ### The estimate (R52, R53, R54) -/

/-- Ticks modulo L x 2^32 (R54). -/
def NodeConfig.timeModulus (c : NodeConfig) : Nat := c.stepLength * 2 ^ 32

/-- The time (N, p) counted as ticks (R54). -/
def State.ownTicks (s : State) : Nat := s.time.step.toNat * s.config.stepLength + s.time.phase

/-- The correction t: transit, air time and link allowance (R54). -/
def NodeConfig.correction (c : NodeConfig) (m : Message) : Nat := m.transit.toNat + airTime m.length + c.linkAllowance

/-- The estimate of the origin's time, counted as ticks (R54). -/
def NodeConfig.estimate (c : NodeConfig) (m : Message) : Nat :=
  (m.stampStep.toNat * c.stepLength + m.stampPhase.toNat + c.correction m) % c.timeModulus

/-- How far the origin is ahead, as ticks modulo L x 2^32 (R54). -/
def State.lead (s : State) (m : Message) : Nat :=
  (s.config.estimate m + s.config.timeModulus - s.ownTicks) % s.config.timeModulus

/-- A stamp is used: it is from a compatible sender, its transit is not saturated and its phase is below L (R53). -/
def State.stampUsable (s : State) (m : Message) : Bool :=
  s.senderCompatible m.origin && decide (m.transit.toNat < 65535) && decide (m.stampPhase.toNat < s.config.stepLength)

/-! ### Adoption (R55, R57, R58, R59) -/

/-- The step and phase of a time counted as ticks. -/
def State.stepOf (s : State) (ticks : Nat) : StepNo := BitVec.ofNat 32 (ticks / s.config.stepLength)
def State.phaseOf (s : State) (ticks : Nat) : Nat := ticks % s.config.stepLength

/-- The setting of an unset timebase (R55). -/
def State.setTimebase (s : State) (estimate : Nat) : State :=
  (s.withTime
    { s.time with step := s.stepOf estimate, phase := s.phaseOf estimate, isSet := true, trimUsed := 0 }).settingBoundary

/-- A jump to the estimate (R59). -/
def State.jumpTo (s : State) (estimate : Nat) : State :=
  let counted := s.count .jump
  if s.stepOf estimate = s.time.step then counted.withTime { s.time with phase := s.phaseOf estimate }
  else
    (counted.withTime
      { s.time with step := s.stepOf estimate, phase := s.phaseOf estimate, trimUsed := 0 }).boundary

/-- A trim toward a lead of d ticks (R58). -/
def State.trimBy (s : State) (d : Nat) : State :=
  let a := min d (s.config.trimBound - s.time.trimUsed)
  if a = 0 then s.count .trimLimited
  else
    let counted := if a < d then (s.count .trim).count .trimLimited else s.count .trim
    if s.time.phase + a < s.config.stepLength then
      counted.withTime { s.time with phase := s.time.phase + a, trimUsed := s.time.trimUsed + a }
    else
      (counted.withTime
        { s.time with step := s.time.step + 1, phase := s.time.phase + a - s.config.stepLength,
                      trimUsed := s.time.phase + a - s.config.stepLength }).boundary

/-- A stamp that is used is adopted or ignored (R55, R57). -/
def State.adopt (s : State) (m : Message) : State :=
  if !s.time.isSet then s.setTimebase (s.config.estimate m)
  else
    let d := s.lead m
    if d = 0 ∨ s.config.stepLength * 2 ^ 31 ≤ d then s
    else if s.config.stepLength ≤ 8 * d then s.jumpTo (s.config.estimate m)
    else if d ≤ s.config.tolerance then s
    else s.trimBy d

/-- The stamp of an accepted message of known kind is offered, unless the origin is the node itself (R53). -/
def State.offerStamp (s : State) (m : Message) : State :=
  if m.origin ≠ s.ownId ∧ s.controller.state.takesPart ∧ s.stampUsable m then s.adopt m else s

/-! ### The tick of the oscillator (R47, R66, R82; log 4) -/

/-- The SCK cycles of a read, eight for each of 3 + 340 bytes (R192). -/
def readCycles : Nat := 2744

/-- One SCK cycle of a load (R192). -/
def Loader.tick : Loader → Loader
  | .idle => .idle
  | .reading cycles => .reading (min readCycles (cycles + 1))

/-- The counts that every tick moves, besides the phase. -/
def State.tickCounts (s : State) : State :=
  let counted := s.tickPulse.tickTrigger.tickPass
  { counted with loader := s.loader.tick, now := s.now + 1 }

/-- The timebase's part of a tick: the phase, or the ordinary advance at L - 1; none while HELD (R47). -/
def State.tickTime (s : State) : State :=
  if s.time.running then
    if s.time.phase + 1 < s.config.stepLength then s.withTime { s.time with phase := s.time.phase + 1 }
    else s.advanceStep
  else s

/-- The cycle start that the counter has reached is taken (R72, R73). -/
def State.takeCycleStart (s : State) : State :=
  if s.pulse.running && s.pulse.cycleDue then s.withPulse s.pulse.takeCycleStart else s

/-- A pass that has had 124 ticks completes, before a 125th (R29; log 7). -/
def State.passDeadline (s : State) : State :=
  match s.composer.pass with
  | some p => if 124 ≤ p.age then s.completePass else s
  | none => s

/-- What the PWM counter and the bound of a pass have reached is taken before time passes. -/
def State.clockMoments (s : State) : State := s.takeCycleStart.passDeadline

/-- A tick passes: every count moves, and the phase with them. -/
def State.passTick (s : State) : State := s.tickCounts.tickTime

/-- A sample of the lines is taken, and its actions follow (R83, R84, R88). `between`: the ordinary advance of this
moment is taken after the capture and before the local admission (R92). That of the four causes of a boundary (R48) it is
the ordinary advance alone, and no boundary of a stamp, that may fall there is the model's choice (log 18). Where one
sample yields several actions, R92 does not say before which local admission the boundary falls: that it falls before the
first of them, and never between two actions, is the model's choice too (log 18). -/
def State.sampleLines (s : State) (levels : BitVec 8) (between : Bool) : State :=
  let sampled := s.takeSample levels
  let ready :=
    if between && s.time.running && decide (s.config.stepLength ≤ s.time.phase + 1) then
      sampled.clockMoments.passTick.settle
    else sampled
  ready.takeActions (s.firedActions levels)

/-- A sample that is due is taken from the lines as last seen (R82). -/
def State.takeDueSample (s : State) : State := if s.sampleDue then s.sampleLines s.trigger.lines false else s

/-- Before time passes, the moments that the clocks have reached are taken: a cycle start, the bound of a pass, a
sample. -/
def State.settleClocks (s : State) : State := s.clockMoments.takeDueSample

/-- One tick of the local oscillator (log 4). The countdown and the phase move together and a sample that falls due is
taken after both, so that one due on the tick that ends a step reads (N+1, 0): the model's choice between the two
readings that R49 and R94 allow (log 21). -/
def State.tick (s : State) : State := s.settle.settleClocks.passTick

end Sys2Proof.Machine
end

