-- ==== Sys2Proof/Machine/RingPort.lean ====
section
/-! DEFINITION. The ring port and the message handler (chapter 7): the end of a reception, handling, forwarding, the
transmit arbiter. -/

namespace Sys2Proof.Machine

/-! ### The row that a received message belongs to -/

/-- The row of a REQUEST, by its selector code (R178, R189). -/
def requestRow (m : Message) : Instr :=
  match Selector.ofCode (byteAt m.payload 0) with
  | some .readStatus => .readStatus
  | some .readCounters => .readCounters
  | some .readCue => .readCue
  | some .readPeer => .readPeer
  | some .readChannel => .readChannel
  | some .clearCounters => .clearCounters
  | some .restart => .restart
  | none => .badSelector

/-- The message is stripped: it carries the node's own id outside CLASH (R119, R121). -/
def State.stripped (s : State) (m : Message) : Bool := m.origin == s.ownId && s.controller.state.strips

/-- The row that a message which has passed the acceptance checks belongs to (R119, R125, R187; log 2). -/
def State.rowOf (s : State) (m : Message) : Instr :=
  if s.stripped m then .ownMessageStripped
  else
    match m.kind.toNat with
    | 1 => .beacon
    | 2 => .join
    | 3 => .cue
    | 4 => .release
    | 5 => .clear
    | 6 => requestRow m
    | 7 => .answer
    | _ => .unknownKind

/-! ### The end of a reception (R116, R117) -/

/-- The receive buffer is free again (R116). -/
def State.emptyReceive (s : State) : State := s.withRing { s.ring with receive := none }

/-- What the acceptance checks give at END, when a reception is in progress in STORE-AND-FORWARD (R116, R117, R118). -/
def State.received (s : State) : Option Acceptance :=
  match s.ring.mode with
  | .storeAndForward => s.ring.receive.map acceptance
  | .passThrough => none

/-- What is finished before an END: the boundary, but for the end of LISTEN where the message is a RESTART, which may
come before it (R170), and but for the placing of what waits for room, which an ANSWER may come before (R129; log 5). -/
def State.settleBefore (s : State) (row : Instr) : State :=
  if row = .restart then s.settleBoundary else s.settleMoment

/-- The END of a reception. A message that fails the acceptance checks is discarded and counted, whichever row reports
the END. A message that passes them is taken by `take` when the row is its own; a row that is not its own is turned
away (log 2, log 3). -/
def State.endReception (s : State) (row : Instr) (take : Message → State → State) : State :=
  let ready := s.settleBefore row
  match ready.received with
  | none => ready
  | some .malformed => ready.emptyReceive.count .malformed
  | some .crcError => ready.emptyReceive.count .crcError
  | some (.accepted m) => if ready.rowOf m = row then take m ready.emptyReceive else ready

/-! ### Handling and forwarding (R122 to R127) -/

/-- What handling a message's content has come to (R125, R126). -/
inductive Verdict | taken | refused | malformed
  deriving DecidableEq, Repr

/-- The seen and refused counts after handling (R126). -/
def Message.handled (m : Message) : Verdict → Message
  | .taken => { m with seen := bumpSix m.seen }
  | .refused => { m with seen := bumpSix m.seen, refused := bumpSix m.refused }
  | .malformed => m

/-- An accepted message joins the insertion buffer with the tick of its end of reception, or overflows (R127). -/
def State.forward (s : State) (m : Message) : State :=
  if s.ring.insertion.length < 4 then
    s.withRing { s.ring with insertion := s.ring.insertion ++ [{ message := m, tick := s.now }] }
  else (s.count .forwardOverflow).noteOverflow

/-- The hop count as incremented, when it stays within the limit (R122). -/
def Message.hopped (m : Message) : Option Message :=
  if m.hop.toNat + 1 ≤ 62 then some { m with hop := m.hop + 1 } else none

/-- The roster has taken the message, and its stamp has been judged; a boundary that the stamp produced is finished
before the content is handed on (R123, steps 1 and 2). An end of LISTEN that was left due before stays due (R170). The
publication unit's part of that boundary, with the placing that ends it, comes before the BEACON of the boundary and before
an ANSWER to the message: the model's choice where they compete for one free place (R129; log 5). -/
def State.hear (s : State) (m : Message) : State :=
  let offered := (s.rosterTake m).offerStamp m
  if s.due.listenEnd then offered.settleBoundary else offered.settleMoment

/-- The content of a message of allowed length is handed on; another length is malformed (R123, R125, R189). -/
def State.handOn (s : State) (m : Message) (content : Message → State → Verdict × State) : Verdict × State :=
  if m.lengthAllowed then content m s else (.malformed, s.count .malformed)

/-- A message of known kind that is not stripped: hop limit, roster, stamp, content, counts, insertion buffer
(R122 to R127). -/
def State.acceptKnown (s : State) (m : Message) (content : Message → State → Verdict × State) : State :=
  match m.hopped with
  | none => s.count .hopLimit
  | some h =>
    let handed := (s.hear h).handOn h content
    handed.2.forward (h.handled handed.1)

/-- A message of unknown kind: hop limit, counted, forwarded (R122, R125). -/
def State.acceptUnknown (s : State) (m : Message) : State :=
  match m.hopped with
  | none => s.count .hopLimit
  | some h => (s.count .unknownKind).forward h

/-! ### Content by kind (R123) -/

/-- BEACON and ANSWER: no block takes more than the roster and the timebase (R123, R124). -/
def noContent (_ : Message) (s : State) : Verdict × State := (.taken, s)

/-- JOIN: the purge and the replay marks, unless it carries the node's own id (R21, R106). -/
def joinContent (m : Message) (s : State) : Verdict × State :=
  if m.origin = s.ownId then (.taken, s)
  else
    (.taken, (s.purgeOrigin m.origin).markForJoin (word16At m.payload 0).toNat (byteAt m.payload 2).toNat)

/-- The verdict on a message from the outcome of its content (R12, R126). -/
def Admission.verdict (a : Admission) : Verdict := if a = .refused then .refused else .taken

/-- CUE (R3, R13 to R17). -/
def cueContent (m : Message) (s : State) : Verdict × State :=
  match cueOfPayload m.origin m.payload with
  | none => (.malformed, s.count .malformed)
  | some c =>
    let taken := s.takeCue c (s.senderCompatible m.origin)
    (taken.1.verdict, taken.2)

/-- RELEASE (section 1.5, R19, R189). -/
def releaseContent (m : Message) (s : State) : Verdict × State :=
  let taken := s.takeRelease m.origin (byteAt m.payload 0) ((byteAt m.payload 1).extractLsb' 0 4)
    { step := word32At m.payload 2, fade := word16At m.payload 6 } (s.senderCompatible m.origin)
  (taken.1.verdict, taken.2)

/-- CLEAR (R20, R189). -/
def clearContent (m : Message) (s : State) : Verdict × State :=
  (.taken, s.takeClear ((byteAt m.payload 0).extractLsb' 0 6) (word32At m.payload 1) (s.senderCompatible m.origin))

/-- A REQUEST is judged; one that is acted on goes to `act` with its index (R124, R178, R179). -/
def requestContent (act : Message → State → Nat → State) (m : Message) (s : State) : Verdict × State :=
  match s.judgeRequest m with
  | .notForUs => (.taken, s)
  | .ignored => (.taken, s.count .answerLost)
  | .answered r => (.taken, (s.placeAnswer m r []).2)
  | .acted => (.taken, act m s (byteAt m.payload 1).toNat)

/-- A READ answers OK with data read now (R179, R180). -/
def answerRead (data : State → Nat → List Byte) (m : Message) (s : State) (i : Nat) : State :=
  (s.placeAnswer m .ok (data s i)).2

/-- CLEAR COUNTERS: every counter is 0, then the answer (R183). -/
def answerClear (m : Message) (s : State) (_ : Nat) : State :=
  ((s.withCounters Counters.zero).placeAnswer m .ok []).2

/-- RESTART: the answer, then the report to the node controller (R184). A RESTART at the moment at which LISTEN has ended
is one taken in LISTEN whose boundary the node controller has taken first: its ANSWER is lost, and the restart returns the
node to LISTEN and empties the queue (R168, R170). Where that moment ends is the model's choice (log 5). -/
def answerRestart (m : Message) (s : State) (_ : Nat) : State :=
  if s.due.listenEnded then (s.count .answerLost).performRestart
  else
    let placed := s.placeAnswer m .ok []
    match placed.1 with
    | some sequence => placed.2.requestRestart sequence
    | none => placed.2.performRestart

/-- A stripped message: a return or a stray echo (R119, R120). -/
def takeStripped (m : Message) (s : State) : State :=
  if s.ring.recent.contains m.sequence then (s.monitorReturn.publicationReturn m).controllerReturn m.sequence
  else s.strayEcho

/-! ### The transmit arbiter (R130 to R133) -/

/-- The head of the send queue is eligible (R132). -/
def State.ownEligible (s : State) : Bool := s.controller.state.sendsOwn && !s.ring.sendQueue.isEmpty

/-- The link is free for a grant (R131, R118): in PASS-THROUGH nothing is granted, not even a JOIN that waits (log 25). -/
def State.linkFree (s : State) : Bool := s.ring.mode == .storeAndForward && s.ring.transmitter == .idle

/-- A sequence joins recent sends at the newest end; 16 stay (R130). -/
def enterRecent (recent : List Byte) (sequence : Byte) : List Byte :=
  let joined := (recent.filter fun x => x != sequence) ++ [sequence]
  joined.drop (joined.length - 16)

/-- The message as it leaves: transit is brought up to date (R51, R133). -/
def State.departing (s : State) (w : Waiting) (partTick : Bool) : Message :=
  let residence := s.now - w.tick + (if partTick then 1 else 0)
  { w.message with
    transit := addTransit w.message.transit (residence + airTime w.message.length + s.config.linkAllowance) }

/-- The grant of the insertion buffer's head (R127, R131, R133). -/
def State.grantForwarded (s : State) (w : Waiting) (rest : List Waiting) (partTick : Bool) : State :=
  s.withRing
    { s.ring with
      insertion := rest
      transmitter := .forwarding (s.departing w partTick).bytes
      guardCount := if s.ownEligible then s.ring.guardCount + 1 else 0 }

/-- An own message as it leaves: stamp now, the other counts 0 (R50, R133). -/
def State.stamped (s : State) (o : OwnMessage) : Message :=
  { kind := o.kind.code, origin := s.ownId, target := o.target, sequence := o.sequence, hop := 0, seen := 0,
    refused := 0, stampStep := s.time.step, stampPhase := BitVec.ofNat 16 s.time.phase, transit := 0,
    payload := o.payload }

/-- The ring port reports room to the producers; what they place is left due (R129; log 5). -/
def State.reportRoom (s : State) : State := s.withDue { s.due with entries := true, joinPlace := true }

/-- The grant of the send queue's head, with the reports of its start (R129 to R133, R160, R162). -/
def State.grantOwn (s : State) (o : OwnMessage) (rest : List OwnMessage) : State :=
  let sending := s.withRing
    { s.ring with
      sendQueue := rest
      recent := enterRecent s.ring.recent o.sequence
      transmitter := .sendingOwn o.kind o.sequence (s.stamped o).bytes
      guardCount := 0 }
  ((sending.recordSent o.kind o.sequence).recordJoinSent o.kind o.sequence).startWatch.reportRoom

/-- The grant, by the first row of R131 that fits. Where the guard stands at 16 and no own message is eligible, no row
fits and the insertion buffer's head, which is always eligible, is granted (log 11). -/
def State.grant (s : State) (partTick : Bool) : State :=
  if !s.linkFree then s
  else
    match s.ring.insertion, s.ring.sendQueue with
    | [], [] => s
    | [], o :: rest => if s.ownEligible then s.grantOwn o rest else s
    | w :: ws, [] => s.grantForwarded w ws partTick
    | w :: ws, o :: rest =>
      if s.ownEligible && decide (16 ≤ s.ring.guardCount) then s.grantOwn o rest
      else s.grantForwarded w ws partTick

/-- The END of a transmission: the transmitter is idle, the link free after one IDLE, and the end of an own ANSWER is
reported (R134). -/
def State.endTransmission (s : State) : State :=
  let idle := s.withRing { s.ring with transmitter := .idle }
  match s.ring.transmitter with
  | .idle => s
  | .forwarding _ => idle
  | .sendingOwn .answer sequence _ => idle.answerEnded sequence
  | .sendingOwn _ _ _ => idle

end Sys2Proof.Machine
end

