-- ==== Sys2Proof/Machine/Link.lean ====
section
/-! DEFINITION. Meanings: the rows of the links (chapter 7). -/

namespace Sys2Proof.Machine

/-- LINK_MODE_SWITCH (R118): after entry to LISTEN the first upstream IDLE turns the port to STORE-AND-FORWARD. -/
def execLinkModeSwitch (s : State) : Host.Outcome State Fault Refusal :=
  .next
    (if s.ring.mode = .passThrough ∧ s.controller.state.takesPart then
       s.withRing { s.ring with mode := .storeAndForward, repeating := false }
     else s)

/-- The receive buffer takes the data bytes that follow a START, at most 50 (R115, R116). -/
def State.beginReception (s : State) (bytes : List Byte) : State :=
  s.withRing { s.ring with receive := some (bytes.take 50) }

/-- A reception in progress in STORE-AND-FORWARD (R116). -/
def State.receiving (s : State) : Bool := s.ring.mode == .storeAndForward && s.ring.receive.isSome

/-- RECEPTION_START (R116): in STORE-AND-FORWARD a START begins a reception. A START inside a message aborts it first
(R114; log 19). -/
def execReceptionStart (bytes : List Byte) (s : State) : Host.Outcome State Fault Refusal :=
  .next
    (match s.ring.mode with
     | .passThrough => s
     | .storeAndForward =>
       match s.ring.receive with
       | none => s.beginReception bytes
       | some _ => (s.count .malformed).beginReception bytes)

/-- RECEPTION_ABORTED (R116): the partial message is discarded and counted; a START begins a new reception. -/
def execReceptionAborted (symbol : AbortSymbol) (s : State) : Host.Outcome State Fault Refusal :=
  .next
    (if s.receiving then
       let aborted := s.emptyReceive.count .malformed
       match symbol with
       | .idle => aborted
       | .undecodable => aborted
       | .start following => aborted.beginReception following
     else s)

/-- RECEPTION_OVERLONG (R116): the 51st data byte abandons the reception, which is counted. -/
def execReceptionOverlong (s : State) : Host.Outcome State Fault Refusal :=
  .next
    (if s.receiving && decide ((s.ring.receive.getD []).length = 50) then s.emptyReceive.count .malformed else s)

/-- PASS_THROUGH_REPEATING_RESUMED (R135): at an upstream IDLE the transmitter starts repeating. -/
def execPassThroughRepeatingResumed (s : State) : Host.Outcome State Fault Refusal :=
  .next (if s.ring.mode = .passThrough then s.withRing { s.ring with repeating := true } else s)

/-- GRANT (R131): the arbiter grants a head when the link is free. -/
def execGrant (partTick : Bool) (s : State) : Host.Outcome State Fault Refusal := .next (s.settle.grant partTick)

/-- TRANSMISSION_END (R134). -/
def execTransmissionEnd (s : State) : Host.Outcome State Fault Refusal := .next s.settle.endTransmission

/-- PLACE_WAITING_ENTRIES (R101). -/
def execPlaceWaitingEntries (s : State) : Host.Outcome State Fault Refusal := .next s.takeEntries

/-- PUBLICATION_TIMEOUT (R104), and the replay feed that follows the timeouts (R108, R109). -/
def execPublicationTimeout (s : State) : Host.Outcome State Fault Refusal := .next s.takePublications

end Sys2Proof.Machine
end

