-- ==== Sys2Proof/Machine/Messages.lean ====
section
/-! DEFINITION. Meanings: the ends of receptions of messages other than REQUESTs (chapters 1, 7, 8). -/

namespace Sys2Proof.Machine

/-- BEACON (R142). -/
def execBeacon (s : State) : Host.Outcome State Fault Refusal :=
  .next (s.endReception .beacon fun m ready => ready.acceptKnown m noContent)

/-- JOIN (R144, R21, R106). -/
def execJoin (s : State) : Host.Outcome State Fault Refusal :=
  .next (s.endReception .join fun m ready => ready.acceptKnown m joinContent)

/-- CUE (R13 to R17). -/
def execCue (s : State) : Host.Outcome State Fault Refusal :=
  .next (s.endReception .cue fun m ready => ready.acceptKnown m cueContent)

/-- RELEASE (R19). -/
def execRelease (s : State) : Host.Outcome State Fault Refusal :=
  .next (s.endReception .release fun m ready => ready.acceptKnown m releaseContent)

/-- CLEAR (R20). -/
def execClear (s : State) : Host.Outcome State Fault Refusal :=
  .next (s.endReception .clear fun m ready => ready.acceptKnown m clearContent)

/-- ANSWER (R124). -/
def execAnswer (s : State) : Host.Outcome State Fault Refusal :=
  .next (s.endReception .answer fun m ready => ready.acceptKnown m noContent)

/-- UNKNOWN_KIND (R125). -/
def execUnknownKind (s : State) : Host.Outcome State Fault Refusal :=
  .next (s.endReception .unknownKind fun m ready => ready.acceptUnknown m)

/-- OWN_MESSAGE_STRIPPED (R119, R120). -/
def execOwnMessageStripped (s : State) : Host.Outcome State Fault Refusal :=
  .next (s.endReception .ownMessageStripped takeStripped)

end Sys2Proof.Machine
end

