-- ==== Sys2Proof/Machine/Moments.lean ====
section
/-! DEFINITION. Meanings: the node's own clocks and the rows of the step boundary (chapters 1 to 5, 8, 10). -/

namespace Sys2Proof.Machine

/-- ORDINARY_ADVANCE (R47): the tick that finds the phase at L - 1, and nothing at another phase or while HELD. What
waits for room stays due: a BEACON of this boundary may take the place first (R176; log 5). -/
def execOrdinaryAdvance (s : State) : Host.Outcome State Fault Refusal :=
  .next
    (let ready := s.settleMoment
     if ready.time.running ∧ ready.config.stepLength ≤ ready.time.phase + 1 then ready.settleClocks.endMoment.passTick
     else ready)

/-- TOMBSTONE_FREED (R24). -/
def execTombstoneFreed (s : State) : Host.Outcome State Fault Refusal := .next s.takeTombstones

/-- PASS_COMPLETE (R42), after step 1 of the pass start (R29). -/
def execPassComplete (s : State) : Host.Outcome State Fault Refusal := .next s.takeTombstones.completePass

/-- CYCLE_START (R72, R73): the cycle start that the counter has reached. -/
def execCycleStart (s : State) : Host.Outcome State Fault Refusal := .next s.takeCycleStart

/-- TRIGGER_SAMPLE (R83): the sample that the countdown has reached. -/
def execTriggerSample (levels : BitVec 8) (boundaryBetween : Bool) (s : State) : Host.Outcome State Fault Refusal :=
  .next
    (let ready := s.settle
     if ready.sampleDue then ready.sampleLines levels boundaryBetween else ready)

/-- PEER_SILENT (R146). -/
def execPeerSilent (s : State) : Host.Outcome State Fault Refusal := .next s.takePeerSilent

/-- PEER_GONE (R147), after step 1 of the pass start (R29). -/
def execPeerGone (s : State) : Host.Outcome State Fault Refusal := .next s.takeTombstones.takePeerGone

/-- BEACON_DUE (R174, R176), after step 1 of the pass start (R29). -/
def execBeaconDue (s : State) : Host.Outcome State Fault Refusal := .next s.takeTombstones.takeBeacon

end Sys2Proof.Machine
end

