-- ==== Sys2Proof/Machine/NodeLife.lean ====
section
/-! DEFINITION. Meanings: reset, load, and the rows of the node controller (chapter 9). -/

namespace Sys2Proof.Machine

/-- The node in full reset: every block takes its reset values, a transmission is truncated and the link goes to
PASS-THROUGH (R135, R154). Out of STORE-AND-FORWARD the transmitter sends IDLE until the upstream link carries one. The
lines and the model's own counters are no part of what a reset acts on (log 9). -/
def State.fullReset (s : State) : State :=
  { State.reset with
    pending := s.pending
    trigger := { TriggerUnit.reset with lines := s.trigger.lines }
    ring :=
      { RingPort.reset with
        repeating :=
          match s.ring.mode with
          | .passThrough => s.ring.repeating
          | .storeAndForward => false }
    now := s.now
    freeCount := s.freeCount }

/-- FULL_RESET (R154): in every state, at once. -/
def execFullReset (s : State) : Host.Outcome State Fault Refusal := .next s.fullReset

/-- RESET_RELEASE (R154): the loader begins to read. -/
def execResetRelease (s : State) : Host.Outcome State Fault Refusal :=
  .next (if s.resetHeld then { s with resetHeld := false, loader := .reading 0 } else s)

/-- Entry to LISTEN after a load, with the record's values (R47, R66, R82, R153, R157). The first count of the PWM
counter is a cycle start. -/
def State.enterListen (s : State) (c : NodeConfig) : State :=
  { s with
    loader := .idle
    config := c
    time := { s.time with running := true }
    pulse := { s.pulse with running := true, cycleDue := true }
    trigger := { s.trigger with running := true }
    controller := { s.controller with state := .listen, listenCount := 0, grace := c.circuitLimit } }

/-- A record that fails a check: UNCONFIGURED, every block at its reset values (R156). -/
def State.enterUnconfigured (s : State) : State :=
  { s with loader := .idle, controller := { s.controller with state := .unconfigured } }

/-- LOAD_COMPLETE (R155): SCS goes high after the 2744 cycles of the read, and the checks are made (R192): UNCONFIGURED
or LISTEN. Before that it is turned away. -/
def execLoadComplete (record : List Byte) (s : State) : Host.Outcome State Fault Refusal :=
  .next
    (match s.loader with
     | .idle => s
     | .reading cycles =>
       if cycles < readCycles then s
       else
         match loadRecord record with
         | none => s.enterUnconfigured
         | some c => s.enterListen c)

/-- LISTEN_END (R158). -/
def execListenEnd (s : State) : Host.Outcome State Fault Refusal := .next s.takeListenEnd

/-- JOIN_EXPIRY (R160). -/
def execJoinExpiry (s : State) : Host.Outcome State Fault Refusal := .next s.takeJoinExpiry

/-- WATCH_EXPIRY (R163). -/
def execWatchExpiry (s : State) : Host.Outcome State Fault Refusal := .next s.takeWatch

/-- PLACE_WAITING_JOIN (R159). -/
def execPlaceWaitingJoin (s : State) : Host.Outcome State Fault Refusal := .next s.takeJoinPlace

/-- STRAY_ECHO_AGE_EXPIRY (R166). -/
def execStrayEchoAgeExpiry (s : State) : Host.Outcome State Fault Refusal := .next s.takeStrayAges

end Sys2Proof.Machine
end

