-- ==== Sys2Proof/Machine/Requests.lean ====
section
/-! DEFINITION. Meanings: the ends of receptions of REQUESTs, one row a selector (chapter 10). -/

namespace Sys2Proof.Machine

/-- READ_STATUS (R180). -/
def execReadStatus (s : State) : Host.Outcome State Fault Refusal :=
  .next (s.endReception .readStatus fun m ready =>
    ready.acceptKnown m (requestContent (answerRead State.readStatusData)))

/-- READ_COUNTERS (R181). -/
def execReadCounters (s : State) : Host.Outcome State Fault Refusal :=
  .next (s.endReception .readCounters fun m ready =>
    ready.acceptKnown m (requestContent (answerRead State.readCountersData)))

/-- READ_CUE (R182). -/
def execReadCue (s : State) : Host.Outcome State Fault Refusal :=
  .next (s.endReception .readCue fun m ready =>
    ready.acceptKnown m (requestContent (answerRead State.readCueData)))

/-- READ_PEER (R182). -/
def execReadPeer (s : State) : Host.Outcome State Fault Refusal :=
  .next (s.endReception .readPeer fun m ready =>
    ready.acceptKnown m (requestContent (answerRead State.readPeerData)))

/-- READ_CHANNEL (R181). -/
def execReadChannel (s : State) : Host.Outcome State Fault Refusal :=
  .next (s.endReception .readChannel fun m ready =>
    ready.acceptKnown m (requestContent (answerRead State.readChannelData)))

/-- CLEAR_COUNTERS (R183). -/
def execClearCounters (s : State) : Host.Outcome State Fault Refusal :=
  .next (s.endReception .clearCounters fun m ready => ready.acceptKnown m (requestContent answerClear))

/-- RESTART (R184). -/
def execRestart (s : State) : Host.Outcome State Fault Refusal :=
  .next (s.endReception .restart fun m ready => ready.acceptKnown m (requestContent answerRestart))

/-- BAD_SELECTOR (R178): a REQUEST of no known selector is never acted on. -/
def execBadSelector (s : State) : Host.Outcome State Fault Refusal :=
  .next (s.endReception .badSelector fun m ready => ready.acceptKnown m (requestContent fun _ t _ => t))

end Sys2Proof.Machine
end

