-- ==== Sys2Proof/Machine/Dispatch.lean ====
section
/-! DEFINITION. One arm per command: each row of spec/opcode_table.json has its meaning. -/

namespace Sys2Proof.Machine

def exec (i : Instr) (s : State) : Host.Outcome State Fault Refusal :=
  match i with
  | .fullReset => Sys2Proof.Machine.execFullReset s
  | .resetRelease => Sys2Proof.Machine.execResetRelease s
  | .loadComplete record => Sys2Proof.Machine.execLoadComplete record s
  | .linkModeSwitch => Sys2Proof.Machine.execLinkModeSwitch s
  | .receptionAborted symbol => Sys2Proof.Machine.execReceptionAborted symbol s
  | .receptionOverlong => Sys2Proof.Machine.execReceptionOverlong s
  | .beacon => Sys2Proof.Machine.execBeacon s
  | .join => Sys2Proof.Machine.execJoin s
  | .cue => Sys2Proof.Machine.execCue s
  | .release => Sys2Proof.Machine.execRelease s
  | .clear => Sys2Proof.Machine.execClear s
  | .answer => Sys2Proof.Machine.execAnswer s
  | .unknownKind => Sys2Proof.Machine.execUnknownKind s
  | .readStatus => Sys2Proof.Machine.execReadStatus s
  | .readCounters => Sys2Proof.Machine.execReadCounters s
  | .readCue => Sys2Proof.Machine.execReadCue s
  | .readPeer => Sys2Proof.Machine.execReadPeer s
  | .readChannel => Sys2Proof.Machine.execReadChannel s
  | .clearCounters => Sys2Proof.Machine.execClearCounters s
  | .restart => Sys2Proof.Machine.execRestart s
  | .badSelector => Sys2Proof.Machine.execBadSelector s
  | .ownMessageStripped => Sys2Proof.Machine.execOwnMessageStripped s
  | .grant partTick => Sys2Proof.Machine.execGrant partTick s
  | .transmissionEnd => Sys2Proof.Machine.execTransmissionEnd s
  | .placeWaitingEntries => Sys2Proof.Machine.execPlaceWaitingEntries s
  | .placeWaitingJoin => Sys2Proof.Machine.execPlaceWaitingJoin s
  | .ordinaryAdvance => Sys2Proof.Machine.execOrdinaryAdvance s
  | .tombstoneFreed => Sys2Proof.Machine.execTombstoneFreed s
  | .passComplete => Sys2Proof.Machine.execPassComplete s
  | .cycleStart => Sys2Proof.Machine.execCycleStart s
  | .triggerSample levels boundaryBetween => Sys2Proof.Machine.execTriggerSample levels boundaryBetween s
  | .publicationTimeout => Sys2Proof.Machine.execPublicationTimeout s
  | .watchExpiry => Sys2Proof.Machine.execWatchExpiry s
  | .joinExpiry => Sys2Proof.Machine.execJoinExpiry s
  | .listenEnd => Sys2Proof.Machine.execListenEnd s
  | .peerSilent => Sys2Proof.Machine.execPeerSilent s
  | .peerGone => Sys2Proof.Machine.execPeerGone s
  | .beaconDue => Sys2Proof.Machine.execBeaconDue s
  | .strayEchoAgeExpiry => Sys2Proof.Machine.execStrayEchoAgeExpiry s
  | .receptionStart bytes => Sys2Proof.Machine.execReceptionStart bytes s
  | .passThroughRepeatingResumed => Sys2Proof.Machine.execPassThroughRepeatingResumed s

end Sys2Proof.Machine
end

