-- ==== Sys2Proof/Machine/Pins.lean ====
section
/-! DEFINITION. What the pins carry (spec/00 0.5), derived from the state. -/

namespace Sys2Proof.Machine

/-- STAT is high in RING and low otherwise, and low while the reset is held (R171). -/
def State.statPin (s : State) : Bool := s.controller.state == .ring && !s.resetHeld

/-- PWM0 to PWM63 (R69, R70, R80). -/
def State.pwmPin (s : State) (i : Nat) : Bool := s.pulse.output s.config i

/-- SCS is low during the read and high otherwise (R192). -/
def State.scsPin (s : State) : Bool := s.loader == .idle

/-- The read command 03h and the address 0000h, most significant bit first (R192). -/
def readCommandBits : BitVec 24 := 0x030000#24

/-- SCK in the first or the second half of the present cycle, which is the present tick (1 MHz): low, then high from
the rising edge on, at which SDI is sampled; SDO changes after the falling edge that ends the cycle. It is held low
while SCS is high, and after the 2744th cycle (R192). -/
def State.sckPin (s : State) (secondHalf : Bool) : Bool :=
  match s.loader with
  | .idle => false
  | .reading cycles => decide (cycles < readCycles) && secondHalf

/-- SDO: the command and the address in the first 24 cycles of the read, low otherwise (R192). -/
def State.sdoPin (s : State) : Bool :=
  match s.loader with
  | .idle => false
  | .reading cycles => if cycles < 24 then readCommandBits.getLsbD (23 - cycles) else false

/-- What the downstream link carries (R118, R133, R134, R135). -/
inductive LinkDrive
  | repeats
  | idle
  | message (bytes : List Byte)
  deriving DecidableEq, Repr

/-- The downstream link: in PASS-THROUGH it repeats or sends IDLE (R118, R135); otherwise the message in transmission
or IDLE (R114). -/
def State.downstream (s : State) : LinkDrive :=
  match s.ring.mode with
  | .passThrough => if s.ring.repeating then .repeats else .idle
  | .storeAndForward =>
    match s.ring.transmitter with
    | .idle => .idle
    | .forwarding bytes => .message bytes
    | .sendingOwn _ _ bytes => .message bytes

end Sys2Proof.Machine
end

