-- ==== Sys2Proof/Safety.lean ====
section
/-! DEFINITION. What holds of the node at every moment, block by block: sizes, bounds, keys, orders, and the values that
stand while the node is LOADING or UNCONFIGURED. -/

namespace Sys2Proof.Machine

/-- The tables of fixed size: 48 slots (R7), 16 origin slots (R96), 64 offsets (R28, R65), 8 inputs (R81). -/
abbrev State.sizesFixed (s : State) : Prop :=
  s.table.length = 48 ∧ s.origins.length = 16 ∧ s.composer.record.length = 64 ∧ s.pulse.active.length = 64 ∧
    s.pulse.pending.length = 64 ∧ s.trigger.inputs.length = 8

/-- The ring port's bounds: insertion buffer, send queue, recent sends without duplicates, guard count, receive buffer
(R115, R116, R127, R129, R130, R131). -/
abbrev RingPort.bounded (r : RingPort) : Prop :=
  r.insertion.length ≤ 4 ∧ r.sendQueue.length ≤ 8 ∧ r.recent.length ≤ 16 ∧ r.recent.Nodup ∧ r.guardCount ≤ 16 ∧
    (r.receive.getD []).length ≤ 50

/-- The publication list: at most 8 entries, one for a slot, attempts 1 to 3 (R100). -/
abbrev State.publicationsBounded (s : State) : Prop :=
  s.publications.length ≤ 8 ∧ (s.publications.map Publication.slot).Nodup ∧
    (∀ e ∈ s.publications, 1 ≤ e.attempt ∧ e.attempt ≤ 3)

/-- The key of a slot (R4). -/
def Slot.key : Slot → Option (NodeId × Byte)
  | .free => none
  | .live e => some (e.cue.origin, e.cue.number)
  | .tombstone t => some (t.origin, t.number)

/-- No key is held twice (R4). -/
abbrev State.keysUnique (s : State) : Prop := (s.table.filterMap Slot.key).Nodup

/-- The roster's entries: in the order of R145, no id twice, never the node's own (R139), distances 1 to 62 (R138). -/
abbrev State.rosterOrdered (s : State) : Prop :=
  s.roster.Pairwise (fun a b => a.before b = true) ∧ (s.roster.map Peer.id).Nodup ∧
    (∀ p ∈ s.roster, p.id ≠ s.ownId ∧ 1 ≤ p.hop.toNat ∧ p.hop.toNat ≤ 62)

/-- The node controller's bounds (R152): the stray-echo list holds a third age in CLASH alone (R166, R167), and the JOINs
placed or waiting are at most the attempts (R159, R160). -/
abbrev Controller.bounded (c : Controller) : Prop :=
  c.listenCount ≤ 255 ∧ c.grace ≤ 16 ∧ c.missCount ≤ 2 ∧ c.strayAges.length ≤ 3 ∧
    (c.state ≠ .clash → c.strayAges.length ≤ 2) ∧ (∀ age ∈ c.strayAges, age ≤ 512) ∧ c.joinAttempt ≤ 3 ∧
    c.joinSequences.length + (if c.joinWaiting then 1 else 0) ≤ c.joinAttempt

/-- Every stray-echo age lies below 8 beacon intervals while the node judges ages, but between a boundary and the
removal that it leaves due, when one may have reached them (R166; log 5). -/
abbrev State.agesInWindow (s : State) : Prop :=
  s.controller.state.strips = true →
    ∀ age ∈ s.controller.strayAges,
      age ≤ 8 * s.config.beaconInterval ∧ (s.due.strayAges = false → age < 8 * s.config.beaconInterval)

/-- The loaded values lie in their ranges (R155). -/
abbrev State.configInRange (s : State) : Prop := s.config.inRange = true

/-- The timebase of a node that has been in LISTEN (R46, R47, R50): the phase is below L, the trims of a step keep within
the bound, and the node is RUNNING, and SET wherever it sends. -/
abbrev State.timeSound (s : State) : Prop :=
  s.time.phase < s.config.stepLength ∧ s.time.trimUsed ≤ s.config.trimBound ∧
    (s.controller.state.takesPart = true → s.time.running = true) ∧
    (s.controller.state.sendsOwn = true → s.time.isSet = true)

/-- A node that is LOADING or UNCONFIGURED. -/
abbrev State.asleep (s : State) : Prop := s.controller.state.takesPart = false

/-- Every block at its values after full reset (R11, R28, R46, R65, R81, R96, R115, R138, R152, R173); the lines, the
repeating of the link and the node state itself are no part of it. -/
abbrev State.blocksAtReset (s : State) : Prop :=
  s.time = .reset ∧ s.table = List.replicate 48 .free ∧ s.composer = .reset ∧ s.pulse = .reset ∧
    s.trigger = { TriggerUnit.reset with lines := s.trigger.lines } ∧ s.origins = List.replicate 16 .reset ∧
    s.publications = [] ∧ s.ring = { RingPort.reset with repeating := s.ring.repeating } ∧ s.roster = [] ∧
    s.controller = { Controller.reset with state := s.controller.state } ∧ s.responder = .reset ∧
    s.counters = .zero ∧ s.due = .none

/-- While the reset is held the loader is idle; while it is held or the record is read the node is LOADING (R154); and
while the node is LOADING or UNCONFIGURED every block keeps its values after full reset (R154, R156). -/
abbrev State.asleepAtReset (s : State) : Prop :=
  (s.resetHeld = true → s.loader = .idle) ∧
    (s.resetHeld = true ∨ s.loader ≠ .idle → s.controller.state = .loading) ∧ (s.asleep → s.blocksAtReset)

/-! ### Words of the statements -/

/-- No work is left due (log 5). -/
abbrev State.quiet (s : State) : Prop := s.due = .none

/-- A boundary is finished, but for the end of LISTEN and the placing of what waits for room; LISTEN may have ended at this
moment (log 5). -/
abbrev State.boundaryDone (s : State) : Prop :=
  s.due =
    { Due.none with
      listenEnd := s.due.listenEnd, listenEnded := s.due.listenEnded, joinPlace := s.due.joinPlace,
      entries := s.due.entries }

/-- A boundary is finished, but for the placing of what waits for room (log 5). -/
abbrev State.momentDone (s : State) : Prop := s.boundaryDone ∧ s.due.listenEnd = false

/-- What an END reported by a row needs finished before it: the end of LISTEN too, but for a RESTART (R170; log 5). -/
abbrev State.doneBefore (s : State) (row : Instr) : Prop :=
  s.boundaryDone ∧ (row ≠ .restart → s.due.listenEnd = false)

/-- A reception is in progress in STORE-AND-FORWARD, and these bytes have come (R116). -/
abbrev State.holds (s : State) (b : List Byte) : Prop := s.ring.mode = .storeAndForward ∧ s.ring.receive = some b

/-- The rows of the messages of known kind, each with what takes its content (R123). -/
def rowContent : Instr → Option (Message → State → Verdict × State)
  | .beacon => some noContent
  | .join => some joinContent
  | .cue => some cueContent
  | .release => some releaseContent
  | .clear => some clearContent
  | .answer => some noContent
  | .readStatus => some (requestContent (answerRead State.readStatusData))
  | .readCounters => some (requestContent (answerRead State.readCountersData))
  | .readCue => some (requestContent (answerRead State.readCueData))
  | .readPeer => some (requestContent (answerRead State.readPeerData))
  | .readChannel => some (requestContent (answerRead State.readChannelData))
  | .clearCounters => some (requestContent answerClear)
  | .restart => some (requestContent answerRestart)
  | .badSelector => some (requestContent fun _ s _ => s)
  | _ => none

/-- The rows that an END may be reported by. -/
def rowEndsReception (c : Instr) : Bool := (rowContent c).isSome || c == .unknownKind || c == .ownMessageStripped

end Sys2Proof.Machine
end

