-- ==== Sys2Proof/Certificates/Slice0/Obligations.lean ====
section
/-! DEFINITION. The statements for the provers. -/

open Sys2Proof Sys2Proof.Machine

/-! ### The queue, the tick, the frame of every command -/

/-- The front command is run on the queue's rest. -/
def Obligations.StepTakesTheFrontCommand : Prop :=
  ∀ (s : State) (c : Instr) (rest : List Instr), s.pending = c :: rest → step s = exec c { s with pending := rest }

/-- The empty queue (log 4): with nothing due, one tick passes. Before it, what a clock has reached is taken as its row
takes it, in the order of a cycle start (log 17), a pass that has had 124 ticks (R29, log 7) and a sample of the lines
as last seen. At the end of a step the tick is the ordinary advance (R47). Short of it a HELD timebase stays and a
RUNNING one moves its phase, the PWM counter and the sample countdown move (R66, R82), a load counts an SCK cycle
(R192, log 10), and a pass in flight ages, with a progress that is a free value (log 7) and its target, failsafe
decision and view kept; nothing else of the node changes. -/
def Obligations.EmptyQueueIsOneTick : Prop :=
  ∀ s : State, s.pending = [] → s.quiet →
    let cycle := s.pulse.running && s.pulse.cycleDue
    let bound := (s.composer.pass.map fun p => decide (124 ≤ p.age)).getD false
    (cycle = true → ∃ t, exec .cycleStart s = .next t ∧ step s = step t) ∧
    (cycle = false → bound = true → ∃ t, exec .passComplete s = .next t ∧ step s = step t) ∧
    (cycle = false → bound = false → s.sampleDue = true → 0 < s.config.sampleInterval →
      ∃ t, exec (.triggerSample s.trigger.lines false) s = .next t ∧ step s = step t) ∧
    (s.time.running = true → s.config.stepLength ≤ s.time.phase + 1 → step s = exec .ordinaryAdvance s) ∧
    (cycle = false → bound = false → s.sampleDue = false →
      (s.time.running = false ∨ s.time.phase + 1 < s.config.stepLength) →
      step s =
        .next
          { s with
            now := s.now + 1
            time := if s.time.running then { s.time with phase := s.time.phase + 1 } else s.time
            pulse :=
              if s.pulse.running then s.pulse.advance s.config.pwmMode s.config.countsPerTick else s.pulse
            trigger :=
              if s.trigger.running then { s.trigger with countdown := s.trigger.countdown - 1 } else s.trigger
            loader :=
              match s.loader with
              | .idle => .idle
              | .reading cycles => .reading (min 2744 (cycles + 1))
            composer :=
              { s.composer with
                pass := s.composer.pass.map fun p =>
                  { p with
                    age := p.age + 1
                    progress :=
                      min (s.config.channelCount - 1) (p.progress + Config.channelsEvaluated s.freeCount) } }
            freeCount := if s.composer.pass.isSome then s.freeCount + 1 else s.freeCount })

/-- Every command answers a next state and leaves the queue as it is; only a full reset and a load change the
configuration, and of the reset line and the loader's activity only they and a release of the reset (R154, R156). That a
command whose event cannot occur answers a next state, too, is log 3. -/
def Obligations.EveryCommandAnswers : Prop :=
  (∀ (c : Instr) (s : State), ∃ t, exec c s = .next t ∧ t.pending = s.pending) ∧
  (∀ (c : Instr) (s t : State), exec c s = .next t → c ≠ .fullReset → (∀ r, c ≠ .loadComplete r) →
      t.config = s.config ∧
        (c ≠ .resetRelease → t.resetHeld = s.resetHeld ∧ (t.loader = .idle ↔ s.loader = .idle)))

/-! ### Reset and load -/

/-- The node at State.reset: every block at the values the spec gives after full reset, LOADING, STAT and the outputs
low (R171, R77), and every invariant of this file holds. The reset held and the link's repeating are log 9; that the
configuration is in range and the phase below its step length rests on the values before a load, log 8. -/
def Obligations.ResetState : Prop :=
  State.reset.blocksAtReset ∧ State.reset.controller.state = .loading ∧ State.reset.loader = .idle ∧
    State.reset.ring.mode = .passThrough ∧ State.reset.statPin = false ∧ (∀ i, State.reset.pwmPin i = false) ∧
    State.reset.sizesFixed ∧ State.reset.ring.bounded ∧ State.reset.publicationsBounded ∧ State.reset.keysUnique ∧
    State.reset.rosterOrdered ∧ State.reset.controller.bounded ∧ State.reset.agesInWindow ∧
    State.reset.asleepAtReset ∧ State.reset.configInRange ∧ State.reset.timeSound

/-- FULL_RESET and RESET_RELEASE (R154, R135, R77). The configuration values after it are log 8; that the lines, the
tick count and the free-value count stay is log 9, and so is what the link does after it, whatever was in transmission
or reception: out of STORE-AND-FORWARD it sends IDLE, and in PASS-THROUGH it goes on as it was, repeating or not. That
a RESET_RELEASE without a held reset changes nothing is log 3. -/
def Obligations.ResetCommands : Prop :=
  ∀ s : State,
    (∃ t, exec .fullReset s = .next t ∧ t.blocksAtReset ∧ t.controller.state = .loading ∧ t.resetHeld = true ∧
      t.loader = .idle ∧ t.config = .blank ∧ t.pending = s.pending ∧ t.trigger.lines = s.trigger.lines ∧
      t.now = s.now ∧ t.freeCount = s.freeCount ∧ t.ring.mode = .passThrough ∧
      (s.ring.mode = .storeAndForward → t.ring.repeating = false ∧ t.downstream = .idle) ∧
      (s.ring.mode = .passThrough →
        t.ring.repeating = s.ring.repeating ∧ t.downstream = if s.ring.repeating then .repeats else .idle) ∧
      (∀ i, t.pwmPin i = false) ∧ t.statPin = false) ∧
    (s.resetHeld = true → exec .resetRelease s = .next { s with resetHeld := false, loader := .reading 0 }) ∧
    (s.resetHeld = false → exec .resetRelease s = .next s)

/-- The loader's checks of a record of 340 bytes (R155, R191): the record is refused exactly when every byte is FFh, the
CRC differs, the station id is above 62, or a field lies outside its range; else its values are loaded, each from its
place. A template is valid when it is used, every field is in range and no lower-numbered valid template has its cue
number (R95); a binding when it is used, its codes are in range and its template is valid (R86). One that is not valid
is held as absent (log 16). -/
def Obligations.RecordChecks : Prop :=
  (∀ (c : NodeConfig) (t : Nat), c.template t = (c.templates[t]?).getD none) ∧
  ∀ r : List Byte, r.length = 340 →
    (loadRecord r = none ↔
      (∀ b ∈ r, b = 0xFF#8) ∨ crc16 (r.take 338) ≠ word16At r 338 ∨ 62 < (byteAt r 0).toNat ∨
        ¬ (1 ≤ (byteAt r 3).toNat ∧ (byteAt r 3).toNat ≤ 64 ∧ (word16At r 1).toNat + (byteAt r 3).toNat ≤ 16384 ∧
          500 ≤ (word16At r 4).toNat ∧ (word16At r 4).toNat ≤ 20000 ∧
          1 ≤ (byteAt r 8).toNat ∧ (byteAt r 8).toNat ≤ 16 ∧ 4 ≤ (byteAt r 9).toNat ∧ (byteAt r 9).toNat ≤ 64 ∧
          8 ≤ (byteAt r 10).toNat ∧ (word16At r 14).toNat ≤ 4095 ∧ (byteAt r 16).toNat ≤ 63 ∧
          1 ≤ (byteAt r 17).toNat ∧ (byteAt r 17).toNat ≤ 128)) ∧
    (∀ c, loadRecord r = some c →
      c =
        { stationId := BitVec.ofNat 6 (byteAt r 0).toNat
          channelBase := (word16At r 1).toNat
          channelCount := (byteAt r 3).toNat
          stepLength := (word16At r 4).toNat
          tolerance := (byteAt r 6).toNat
          linkAllowance := (byteAt r 7).toNat
          circuitLimit := (byteAt r 8).toNat
          beaconInterval := (byteAt r 9).toNat
          listenLength := (byteAt r 10).toNat
          isolationHold := (word16At r 11).toNat
          failsafePolicy := if (byteAt r 13).getLsbD 7 then .failsafeLevel else .hold
          outputCurve := if (byteAt r 13).getLsbD 6 then .square else .linear
          pwmMode := if (byteAt r 13).getLsbD 5 then .centre else .edge
          clockDivider :=
            if (byteAt r 13).extractLsb' 0 2 = 0#2 then 1
            else if (byteAt r 13).extractLsb' 0 2 = 1#2 then 2
            else if (byteAt r 13).extractLsb' 0 2 = 2#2 then 4
            else 8
          failsafeLevel := (word16At r 14).toNat
          stagger := (byteAt r 16).toNat
          sampleInterval := 50 * (byteAt r 17).toNat
          templates := c.templates
          bindings := c.bindings } ∧
      c.templates.length = 16 ∧ c.bindings.length = 16 ∧
      (∀ t < 16,
        let byte := fun (i : Nat) => byteAt r (18 + 18 * t + i)
        let word := fun (i : Nat) => word16At r (18 + 18 * t + i)
        let blend := (byte 0).extractLsb' 2 2
        let function := (byte 0).extractLsb' 0 2
        let inRange :=
          (byte 0).getLsbD 7 = true ∧ (byte 2).toNat ≤ 15 ∧ (word 3).toNat ≤ 16383 ∧ (word 5).toNat ≤ 16383 ∧
            (word 3).toNat ≤ (word 5).toNat ∧ blend ≠ 3#2 ∧ (word 7).toNat ≤ 4095 ∧ (word 9).toNat ≤ 4095 ∧
            ¬ ((function = 1#2 ∨ function = 2#2) ∧ word 11 = 0#16) ∧
            ¬ ((byte 0).getLsbD 6 = true ∧ word 13 = 0#16) ∧ byte 15 ≠ 0#8
        let repeats := ∃ u < t, ∃ tpl, c.template u = some tpl ∧ tpl.number = byte 1
        (c.template t = none ↔ ¬ inRange ∨ repeats) ∧
        (∀ tpl, c.template t = some tpl →
          tpl =
            { number := byte 1
              priority := BitVec.ofNat 4 (byte 2).toNat
              first := BitVec.ofNat 14 (word 3).toNat
              last := BitVec.ofNat 14 (word 5).toNat
              blend := if blend = 0#2 then .replace else if blend = 1#2 then .highest else .scale
              function :=
                if function = 0#2 then .fixed
                else if function = 1#2 then .ramp
                else if function = 2#2 then .alternate
                else .gradient
              l0 := BitVec.ofNat 12 (word 7).toNat
              l1 := BitVec.ofNat 12 (word 9).toNat
              d := word 11
              duration := if (byte 0).getLsbD 6 then some (word 13) else none
              lead := byte 15
              fade := word 16
              orphan := if (byte 0).getLsbD 5 then .drop else .keep })) ∧
      (∀ b < 16,
        let flags := byteAt r (306 + 2 * b)
        let template := (byteAt r (307 + 2 * b)).toNat
        let edge := flags.extractLsb' 5 2
        let action := flags.extractLsb' 3 2
        (c.bindings[b]? = some none ↔
          ¬ (flags.getLsbD 7 = true ∧ edge ≠ 3#2 ∧ action ≠ 3#2 ∧ template ≤ 15 ∧ c.template template ≠ none)) ∧
        (∀ x, c.bindings[b]? = some (some x) →
          x =
            { input := (flags.extractLsb' 0 3).toNat
              edge := if edge = 0#2 then .rise else if edge = 1#2 then .fall else .both
              action := if action = 0#2 then .start else if action = 1#2 then .release else .toggle
              template := template })))

/-- LOAD_COMPLETE (R155, R156, R157, R192, R47, R66, R82): after the 2744 cycles of the read, a record that is refused
makes the node UNCONFIGURED and changes nothing else; one that is loaded takes it to LISTEN and starts the clocks. That
the first count is then a cycle start to be taken is log 17. Before, and without a read, nothing changes (log 3). The
cycles are counted by ticks, and bytes not given read FFh (log 10). -/
def Obligations.LoadCompleteEndsLoading : Prop :=
  ∀ (s : State) (record : List Byte),
    (s.loader = .idle → exec (.loadComplete record) s = .next s) ∧
    (∀ n, s.loader = .reading n → n < 2744 → exec (.loadComplete record) s = .next s) ∧
    (∀ n, s.loader = .reading n → 2744 ≤ n →
      (loadRecord record = none →
        exec (.loadComplete record) s =
          .next { s with loader := .idle, controller := { s.controller with state := .unconfigured } }) ∧
      (∀ c, loadRecord record = some c →
        exec (.loadComplete record) s =
          .next
            { s with
              loader := .idle
              config := c
              time := { s.time with running := true }
              pulse := { s.pulse with running := true, cycleDue := true }
              trigger := { s.trigger with running := true }
              controller :=
                { s.controller with state := .listen, listenCount := 0, grace := c.circuitLimit } })) ∧
    (s.loader.tick =
      match s.loader with
      | .idle => .idle
      | .reading n => .reading (if n < 2744 then n + 1 else 2744)) ∧
    (∀ second,
      (s.loader = .idle →
        s.scsPin = true ∧ s.sckPin second = false ∧ s.sdoPin = false) ∧
      (∀ n, s.loader = .reading n →
        s.scsPin = false ∧ (s.sckPin second = true ↔ n < 2744 ∧ second = true) ∧
          (s.sdoPin = true ↔ n = 6 ∨ n = 7)))

/-! ### The link -/

/-- The modes of the link and the receptions (R114, R116, R118, R133, R135): in STORE-AND-FORWARD a START opens a
reception, an abort discards and counts it, and a 51st byte abandons and counts it; in PASS-THROUGH nothing is
received, and an upstream IDLE after entry to LISTEN turns the mode. The downstream link repeats or sends IDLE in
PASS-THROUGH, and in STORE-AND-FORWARD it carries the message in transmission, forwarded or own, or IDLE. That a START
brings the data bytes that follow it, so that the receive buffer holds them at once, is log 2 and log 20. A START
inside a message by RECEPTION_START is log 19. A command whose event cannot occur changes nothing (log 3). -/
def Obligations.ReceptionEvents : Prop :=
  ∀ (s : State) (bytes : List Byte), bytes.length ≤ 50 →
    (s.ring.mode = .storeAndForward → s.ring.receive = none →
      exec (.receptionStart bytes) s = .next { s with ring := { s.ring with receive := some bytes } } ∧
        (∀ symbol, exec (.receptionAborted symbol) s = .next s) ∧ exec .receptionOverlong s = .next s) ∧
    (∀ b, s.holds b →
      (∀ symbol, (symbol = .idle ∨ symbol = .undecodable) →
        exec (.receptionAborted symbol) s =
          .next { s with ring := { s.ring with receive := none }, counters := s.counters.bump .malformed }) ∧
      exec (.receptionAborted (.start bytes)) s =
        .next { s with ring := { s.ring with receive := some bytes }, counters := s.counters.bump .malformed } ∧
      exec (.receptionStart bytes) s =
        .next { s with ring := { s.ring with receive := some bytes }, counters := s.counters.bump .malformed } ∧
      (b.length = 50 →
        exec .receptionOverlong s =
          .next { s with ring := { s.ring with receive := none }, counters := s.counters.bump .malformed }) ∧
      (b.length < 50 → exec .receptionOverlong s = .next s)) ∧
    (s.ring.mode = .passThrough →
      exec (.receptionStart bytes) s = .next s ∧ exec .receptionOverlong s = .next s ∧
        (∀ symbol, exec (.receptionAborted symbol) s = .next s) ∧
        exec .passThroughRepeatingResumed s = .next { s with ring := { s.ring with repeating := true } } ∧
        (s.controller.state.takesPart = true →
          exec .linkModeSwitch s =
            .next { s with ring := { s.ring with mode := .storeAndForward, repeating := false } }) ∧
        (s.controller.state.takesPart = false → exec .linkModeSwitch s = .next s)) ∧
    (s.ring.mode = .storeAndForward →
      exec .linkModeSwitch s = .next s ∧ exec .passThroughRepeatingResumed s = .next s) ∧
    (s.ring.mode = .passThrough → s.downstream = if s.ring.repeating then .repeats else .idle) ∧
    (s.ring.mode = .storeAndForward →
      (s.ring.transmitter = .idle → s.downstream = .idle) ∧
      (∀ sent, s.ring.transmitter = .forwarding sent → s.downstream = .message sent) ∧
      (∀ kind sequence sent, s.ring.transmitter = .sendingOwn kind sequence sent → s.downstream = .message sent))

/-- The acceptance checks at END, in their order (R117), and the hop limit (R122): a message that fails one, whichever
row reports the END (log 2), or that would leave with a hop count above 62, is discarded and counted, and nothing else
happens; bytes that pass every check are accepted. With nothing left due that is finished before an END (log 5). -/
def Obligations.FailedChecksDiscard : Prop :=
  ∀ (row : Instr) (s : State) (b : List Byte), rowEndsReception row = true → s.doneBefore row → s.holds b →
    (b.length < 18 →
      exec row s = .next { s with ring := { s.ring with receive := none }, counters := s.counters.bump .malformed }) ∧
    (18 ≤ b.length → crc16 (b.take (b.length - 2)) ≠ word16At b (b.length - 2) →
      exec row s = .next { s with ring := { s.ring with receive := none }, counters := s.counters.bump .crcError }) ∧
    (18 ≤ b.length → crc16 (b.take (b.length - 2)) = word16At b (b.length - 2) →
      let count := ((byteAt b 7).extractLsb' 0 6).toNat
      (32 < count ∨ 16 + count + 2 ≠ b.length ∨ (byteAt b 1).extractLsb' 0 6 = 63#6 →
        exec row s =
          .next { s with ring := { s.ring with receive := none }, counters := s.counters.bump .malformed }) ∧
      (count ≤ 32 → 16 + count + 2 = b.length → (byteAt b 1).extractLsb' 0 6 ≠ 63#6 →
        ∃ m, acceptance b = .accepted m)) ∧
    (∀ m, acceptance b = .accepted m → s.rowOf m = row → s.stripped m = false → 62 ≤ m.hop.toNat →
      exec row s = .next { s with ring := { s.ring with receive := none }, counters := s.counters.bump .hopLimit })

/-- The bytes of a message (R187, R188): the header by place, most significant byte first, with spare bits 0, then the
payload, then the CRC of both, which takes each bit of each byte in turn from FFFFh. A message of a payload of at most
32 bytes and an origin in 0..62 is accepted, field by field, from the bytes that a D6408 sends for it (R117); from any
bytes that are accepted the fields are read at their places, spare bits ignored. A CUE and a RELEASE are read from
their payloads as they were written, and the payloads have a length that their kinds allow; the content of a CUE is
malformed exactly when the blend code is 3, the last channel lies before the first, or a RAMP or an ALTERNATE has a D
of 0, and otherwise its record is read field by field (R189, R3). The payload length that each kind allows is 16 for a
BEACON, 6 for a JOIN, 20 or 16 for a CUE with or without an end step, 8 for a RELEASE, 5 for a CLEAR, 2 for a REQUEST
and 3 to 27 for an ANSWER; no other kind has one (R189). -/
def Obligations.MessagesAreReadAsWritten : Prop :=
  ((∀ x : BitVec 16, be16 x = [x.extractLsb' 8 8, x.extractLsb' 0 8]) ∧
    (∀ x : BitVec 32,
      be32 x = [x.extractLsb' 24 8, x.extractLsb' 16 8, x.extractLsb' 8 8, x.extractLsb' 0 8]) ∧
    ∀ (b : List Byte) (i : Nat),
      byteAt b i = (b[i]?).getD 0 ∧ word16At b i = byteAt b i ++ byteAt b (i + 1) ∧
        word32At b i = word16At b i ++ word16At b (i + 2)) ∧
  (∀ m : Message,
    m.lengthAllowed = true ↔
      (m.kind = 1#4 ∧ m.payload.length = 16) ∨ (m.kind = 2#4 ∧ m.payload.length = 6) ∨
        (m.kind = 3#4 ∧ m.payload.length = if (byteAt m.payload 15).getLsbD 6 then 20 else 16) ∨
        (m.kind = 4#4 ∧ m.payload.length = 8) ∨ (m.kind = 5#4 ∧ m.payload.length = 5) ∨
        (m.kind = 6#4 ∧ m.payload.length = 2) ∨
        (m.kind = 7#4 ∧ 3 ≤ m.payload.length ∧ m.payload.length ≤ 27)) ∧
  (∀ m : Message,
    let covered : List Byte :=
      [m.kind ++ 0#4, 0#2 ++ m.origin, 0#2 ++ m.target, m.sequence, 0#2 ++ m.hop, 0#2 ++ m.seen, 0#2 ++ m.refused,
        0#2 ++ BitVec.ofNat 6 m.payload.length, m.stampStep.extractLsb' 24 8, m.stampStep.extractLsb' 16 8,
        m.stampStep.extractLsb' 8 8, m.stampStep.extractLsb' 0 8, m.stampPhase.extractLsb' 8 8,
        m.stampPhase.extractLsb' 0 8, m.transit.extractLsb' 8 8, m.transit.extractLsb' 0 8] ++ m.payload
    m.bytes = covered ++ [(crc16 covered).extractLsb' 8 8, (crc16 covered).extractLsb' 0 8] ∧
      (m.payload.length ≤ 32 → m.origin ≠ 63#6 →
        acceptance m.bytes = .accepted m ∧ m.bytes.length = m.length)) ∧
  (crc16 [] = 0xFFFF#16 ∧
    ∀ (b : List Byte) (x : Byte),
      crc16 (b ++ [x]) =
        [7, 6, 5, 4, 3, 2, 1, 0].foldl
          (fun (crc : BitVec 16) (k : Nat) => if crc.msb ≠ x.getLsbD k then (crc <<< 1) ^^^ 0x1021#16 else crc <<< 1) (crc16 b)) ∧
  (∀ (b : List Byte) (m : Message), acceptance b = .accepted m →
    m =
      { kind := (byteAt b 0).extractLsb' 4 4
        origin := (byteAt b 1).extractLsb' 0 6
        target := (byteAt b 2).extractLsb' 0 6
        sequence := byteAt b 3
        hop := (byteAt b 4).extractLsb' 0 6
        seen := (byteAt b 5).extractLsb' 0 6
        refused := (byteAt b 6).extractLsb' 0 6
        stampStep := word32At b 8
        stampPhase := word16At b 12
        transit := word16At b 14
        payload := (b.drop 16).take ((byteAt b 7).extractLsb' 0 6).toNat }) ∧
  (∀ c : Cue, c.first.toNat ≤ c.last.toNat → (c.function = .ramp ∨ c.function = .alternate → c.d ≠ 0#16) →
    cueOfPayload c.origin c.payload = some c ∧
      ∀ m : Message, m.kind = 3#4 → m.payload = c.payload → m.lengthAllowed = true) ∧
  (∀ (number : Byte) (revision : Revision) (r : FadeOut),
    let p := releasePayload number revision r
    byteAt p 0 = number ∧ (byteAt p 1).extractLsb' 0 4 = revision ∧ word32At p 2 = r.step ∧ word16At p 6 = r.fade ∧
      ∀ m : Message, m.kind = 4#4 → m.payload = p → m.lengthAllowed = true) ∧
  (∀ (o : NodeId) (p : List Byte),
    cueOfPayload o p = none ↔
      (word16At p 2).extractLsb' 14 2 = 3#2 ∨
        ((word16At p 4).extractLsb' 0 14).toNat < ((word16At p 2).extractLsb' 0 14).toNat ∨
        (((word16At p 4).extractLsb' 14 2 = 1#2 ∨ (word16At p 4).extractLsb' 14 2 = 2#2) ∧ word16At p 9 = 0#16)) ∧
  (∀ (o : NodeId) (p : List Byte) (c : Cue), cueOfPayload o p = some c →
    let blend := (word16At p 2).extractLsb' 14 2
    let function := (word16At p 4).extractLsb' 14 2
    let levels := byteAt p 6 ++ byteAt p 7 ++ byteAt p 8
    c =
      { origin := o
        number := byteAt p 0
        revision := (byteAt p 1).extractLsb' 4 4
        priority := (byteAt p 1).extractLsb' 0 4
        first := (word16At p 2).extractLsb' 0 14
        last := (word16At p 4).extractLsb' 0 14
        blend := if blend = 0#2 then .replace else if blend = 1#2 then .highest else .scale
        function :=
          if function = 0#2 then .fixed
          else if function = 1#2 then .ramp
          else if function = 2#2 then .alternate
          else .gradient
        l0 := levels.extractLsb' 12 12
        l1 := levels.extractLsb' 0 12
        d := word16At p 9
        start := word32At p 11
        stop := if (byteAt p 15).getLsbD 6 then some (word32At p 16) else none
        orphan := if (byteAt p 15).getLsbD 7 then .drop else .keep })

/-- A message of known kind that is not stripped (R122, R123, R125, R126, R127) reported by its row, BEACON, JOIN,
CUE, RELEASE, CLEAR, ANSWER, READ_STATUS, READ_COUNTERS, READ_CUE, READ_PEER, READ_CHANNEL, CLEAR_COUNTERS, RESTART or
BAD_SELECTOR: the hop count grows by one, the roster takes the message, the stamp is offered, work that its boundary
made due is finished, but for the placing of what waits for room, and for an end of LISTEN that a RESTART comes before
(log 5), the content is handed on when its length is allowed, and the message is forwarded with its counts, each of
which stops at 63. The row and its bytes are log 2. Which row a message belongs to: stripped, in LISTEN, ADMIT, RING and
ISOLATED, with the node's own id; otherwise by its kind code, and a REQUEST by its selector code (R119, R187, R189). The
content of a BEACON and of an ANSWER changes nothing (R123). -/
def Obligations.KnownMessagesAreHandled : Prop :=
  (∀ x : BitVec 6, (bumpSix x).toNat = min 63 (x.toNat + 1)) ∧
  (∀ (m : Message) (s : State), noContent m s = (.taken, s)) ∧
  (∀ (s : State) (m : Message),
    let selector := byteAt m.payload 0
    s.ownId = s.config.stationId ∧
    (s.stripped m = true ↔
      m.origin = s.config.stationId ∧ s.controller.state ∈ [NodeState.listen, .admitting, .ring, .isolated]) ∧
    (s.stripped m = true → s.rowOf m = .ownMessageStripped) ∧
    (s.stripped m = false →
      (m.kind = 1#4 → s.rowOf m = .beacon) ∧ (m.kind = 2#4 → s.rowOf m = .join) ∧
      (m.kind = 3#4 → s.rowOf m = .cue) ∧ (m.kind = 4#4 → s.rowOf m = .release) ∧
      (m.kind = 5#4 → s.rowOf m = .clear) ∧ (m.kind = 7#4 → s.rowOf m = .answer) ∧
      ((m.kind = 0#4 ∨ 8 ≤ m.kind.toNat) → s.rowOf m = .unknownKind) ∧
      (m.kind = 6#4 →
        (selector = 1#8 → s.rowOf m = .readStatus) ∧ (selector = 2#8 → s.rowOf m = .readCounters) ∧
        (selector = 3#8 → s.rowOf m = .readCue) ∧ (selector = 4#8 → s.rowOf m = .readPeer) ∧
        (selector = 5#8 → s.rowOf m = .readChannel) ∧ (selector = 6#8 → s.rowOf m = .clearCounters) ∧
        (selector = 7#8 → s.rowOf m = .restart) ∧
        ((selector = 0#8 ∨ 8 ≤ selector.toNat) → s.rowOf m = .badSelector)))) ∧
  ∀ (row : Instr) (content : Message → State → Verdict × State) (s : State) (b : List Byte) (m : Message),
    rowContent row = some content → s.doneBefore row → s.holds b → acceptance b = .accepted m → s.rowOf m = row →
    m.hop.toNat < 62 →
    ∃ heard handed : State, ∃ verdict : Verdict, ∃ t : State,
      exec row s = .next t ∧
      (let offered := (({ s with ring := { s.ring with receive := none } } : State).rosterTake
          { m with hop := m.hop + 1 }).offerStamp { m with hop := m.hop + 1 }
       heard = if s.due.listenEnd then offered.settleBoundary else offered.settleMoment) ∧
      (m.lengthAllowed = true → (verdict, handed) = content { m with hop := m.hop + 1 } heard) ∧
      (m.lengthAllowed = false →
        verdict = .malformed ∧ handed = { heard with counters := heard.counters.bump .malformed }) ∧
      (handed.ring.insertion.length < 4 →
        t = { handed with
              ring :=
                { handed.ring with
                  insertion := handed.ring.insertion ++
                    [{ message :=
                        { m with
                          hop := m.hop + 1
                          seen := if verdict = .malformed then m.seen else bumpSix m.seen
                          refused := if verdict = .refused then bumpSix m.refused else m.refused }
                       tick := handed.now }] } }) ∧
      (4 ≤ handed.ring.insertion.length →
        t = { handed with
              counters := handed.counters.bump .forwardOverflow
              responder := { handed.responder with overflowSeen := true } })

/-- A message of unknown kind is counted and forwarded with its hop count grown by one and nothing else changed, and
no block takes it (R125, R127). With nothing left due that is finished before an END (log 5); the row and its bytes are
log 2. -/
def Obligations.UnknownKindIsForwarded : Prop :=
  ∀ (s : State) (b : List Byte) (m : Message), s.momentDone → s.holds b → acceptance b = .accepted m →
    s.rowOf m = .unknownKind → m.hop.toNat < 62 →
    (s.ring.insertion.length < 4 →
      exec .unknownKind s =
        .next
          { s with
            counters := s.counters.bump .unknownKind
            ring :=
              { s.ring with
                receive := none
                insertion :=
                  s.ring.insertion ++ [{ message := { m with hop := m.hop + 1 }, tick := s.now }] } }) ∧
    (4 ≤ s.ring.insertion.length →
      exec .unknownKind s =
        .next
          { s with
            counters := (s.counters.bump .unknownKind).bump .forwardOverflow
            responder := { s.responder with overflowSeen := true }
            ring := { s.ring with receive := none } })

/-- What no message changes, whatever its kind and content: the configuration, the trigger unit, the loader, the reset
line, the tick count, the link's mode and the transmission in progress; what waits to be forwarded goes on waiting, and
a timebase that runs goes on running (R12, R47, R81, R136, R155). -/
def Obligations.MessageRowsFrame : Prop :=
  ∀ (row : Instr) (s t : State), rowEndsReception row = true → exec row s = .next t →
    t.config = s.config ∧ t.trigger = s.trigger ∧ t.loader = s.loader ∧ t.resetHeld = s.resetHeld ∧ t.now = s.now ∧
      t.ring.mode = s.ring.mode ∧ t.ring.repeating = s.ring.repeating ∧
      t.ring.transmitter = s.ring.transmitter ∧ s.ring.insertion <+: t.ring.insertion ∧
      (s.time.running = true → t.time.running = true)

/-- A stray echo is counted; in LISTEN and in the grace it is not judged; judged, its age joins the list, and a third
age takes the node to CLASH, which ends an isolation's measure (R119, R120, R166, R167, R39). STRAY_ECHO_AGE_EXPIRY
(R166): outside CLASH the ages that have reached 8 beacon intervals leave the list. The mark that makes ages due is
log 5, and without it nothing happens (log 3); the row and its bytes are log 2. -/
def Obligations.StrayEchoes : Prop :=
  (∀ (s : State) (b : List Byte) (m : Message), s.momentDone → s.holds b → acceptance b = .accepted m →
      m.origin = s.ownId → s.controller.state.strips = true → m.sequence ∉ s.ring.recent →
      ((s.controller.state.sendsOwn = false ∨ 0 < s.controller.grace) →
        exec .ownMessageStripped s =
          .next { s with ring := { s.ring with receive := none }, counters := s.counters.bump .strayEcho }) ∧
      (s.controller.state.sendsOwn = true → s.controller.grace = 0 → s.controller.strayAges.length < 2 →
        exec .ownMessageStripped s =
          .next
            { s with
              ring := { s.ring with receive := none }
              counters := s.counters.bump .strayEcho
              controller := { s.controller with strayAges := s.controller.strayAges ++ [0] } }) ∧
      (s.controller.state.sendsOwn = true → s.controller.grace = 0 → 2 ≤ s.controller.strayAges.length →
        exec .ownMessageStripped s =
          .next
            { s with
              ring := { s.ring with receive := none }
              counters := s.counters.bump .strayEcho
              composer :=
                { s.composer with
                  isolationEntry :=
                    if s.controller.state = .isolated then none else s.composer.isolationEntry }
              controller :=
                { s.controller with strayAges := s.controller.strayAges ++ [0], state := .clash } })) ∧
  (∀ s : State,
      (s.due.strayAges = false → exec .strayEchoAgeExpiry s = .next s) ∧
      (s.due.strayAges = true →
        (s.controller.state.strips = false →
          exec .strayEchoAgeExpiry s = .next { s with due := { s.due with strayAges := false } }) ∧
        (s.controller.state.strips = true →
          exec .strayEchoAgeExpiry s =
            .next
              { s with
                due := { s.due with strayAges := false }
                controller :=
                  { s.controller with
                    strayAges := s.controller.strayAges.filter fun age =>
                      decide (age < 8 * s.config.beaconInterval) } })))

/-- A return (R120, R103, R161, R163, R165): where own messages are sent it clears the miss count and the watch and
goes to the publication unit; the return of a JOIN of this stay in ADMIT then admits the node to RING, releases the
outputs, marks the slots when the node has been isolated (R107), lets the waiting entries be placed (log 5) and raises
STAT; a return in ISOLATED readmits the node with a first JOIN attempt; any other return leaves the node state. With
nothing left due that is finished before an END (log 5); the row and its bytes are log 2; the target of a new JOIN is a
free value (log 6). STAT is high exactly in RING with no reset held (R171). -/
def Obligations.Returns : Prop :=
  (∀ s : State, s.statPin = true ↔ s.controller.state = .ring ∧ s.resetHeld = false) ∧
  ∀ (s : State) (b : List Byte) (m : Message), s.momentDone → s.holds b → acceptance b = .accepted m →
    m.origin = s.ownId → s.controller.state.sendsOwn = true → m.sequence ∈ s.ring.recent →
    let monitored : Controller := { s.controller with missCount := 0, watch := none }
    let r := ({ s with ring := { s.ring with receive := none }, controller := monitored } : State).publicationReturn m
    (r.table = s.table ∧ r.roster = s.roster ∧ r.time = s.time ∧ r.trigger = s.trigger ∧ r.config = s.config ∧
      r.controller = monitored ∧ r.composer = s.composer ∧ r.pulse = s.pulse ∧ r.due = s.due ∧
      r.ring.receive = none ∧ r.ring.insertion = s.ring.insertion ∧ r.ring.recent = s.ring.recent ∧
      s.ring.sendQueue <+: r.ring.sendQueue) ∧
    (s.controller.state = .admitting → m.sequence ∈ s.controller.joinSequences →
      ∃ t, exec .ownMessageStripped s = .next t ∧
        t =
          { r with
            controller :=
              { monitored with
                state := .ring, joinAttempt := 0, joinSequences := [], joinSent := none, joinWaiting := false }
            pulse := { s.pulse with live := true }
            origins :=
              if s.controller.wasIsolated then
                r.origins.map fun o => if o.state = .idle then o else { o with replay := true }
              else r.origins
            due := { s.due with entries := true } } ∧
        (s.resetHeld = false → t.statPin = true)) ∧
    (((s.controller.state = .admitting ∧ m.sequence ∉ s.controller.joinSequences) ∨ s.controller.state = .ring) →
      exec .ownMessageStripped s = .next r) ∧
    (s.controller.state = .isolated → r.ring.sendQueue.length < 8 →
      exec .ownMessageStripped s =
        .next
          { r with
            freeCount := r.freeCount + 1
            composer := { s.composer with isolationEntry := none }
            ring :=
              { r.ring with
                nextSequence := r.ring.nextSequence + 1
                sendQueue := r.ring.sendQueue ++
                  [{ kind := .join, sequence := r.ring.nextSequence, target := Config.ownTarget r.freeCount,
                     payload := s.config.announcement }] }
            controller :=
              { monitored with
                state := .admitting, joinAttempt := 1, joinSequences := [r.ring.nextSequence], joinSent := none,
                joinWaiting := false }
            counters := r.counters.bump .joinAttempts }) ∧
    (s.controller.state = .isolated → 8 ≤ r.ring.sendQueue.length →
      exec .ownMessageStripped s =
        .next
          { r with
            composer := { s.composer with isolationEntry := none }
            controller :=
              { monitored with
                state := .admitting, joinAttempt := 1, joinSequences := [], joinSent := none,
                joinWaiting := true } })

/-- A return that matches an entry by sequence and kind closes it, the first in list order where there are two (log
23): its slot records the outcome and the message's counts and keeps the rest, *delivered* or *partial* is counted, and
the replay feed runs. So no entry of the slot is left but one that the feed has just made; the entries of other slots
stay but for their placing and the feed; and of the other slots nothing but replay marks changes. A return that matches
no entry changes nothing (R103). -/
def Obligations.PublicationReturns : Prop :=
  (∀ kind : BitVec 4,
    pubKindOf kind = if kind = 3#4 then some .cue else if kind = 4#4 then some .release else none) ∧
  ∀ (s : State) (m : Message),
    ((∀ e ∈ s.publications, ¬ (e.sequence = m.sequence ∧ pubKindOf m.kind = some e.kind)) →
      s.publicationReturn m = s) ∧
    (∀ e, s.publications.find? (fun e => e.sequence == m.sequence && some e.kind == pubKindOf m.kind) = some e →
      e.slot < s.origins.length → s.publicationsBounded →
      let t := s.publicationReturn m
      let counter := if m.refused = 0#6 then Counter.delivered else .partially
      let recorded : OriginSlot :=
        { s.originSlot e.slot with
          outcome := if e.localRefusal then .localRefused else if m.refused = 0#6 then .delivered else .partially
          counts := some (m.seen, m.refused) }
      t =
          ({ s with
              publications := s.publications.filter fun x => x.slot != e.slot
              origins := s.origins.set e.slot recorded
              counters := s.counters.bump counter } : State).feedReplays ∧
        { t.originSlot e.slot with replay := false } = { recorded with replay := false } ∧
        (∀ i, i ≠ e.slot →
          { t.originSlot i with replay := false } = { s.originSlot i with replay := false }) ∧
        (∀ x ∈ t.publications, x.slot = e.slot → x.replay = true ∧ x.attempt = 1 ∧ x.sent = none) ∧
        (∀ y ∈ s.publications, y.slot ≠ e.slot →
          ∃ x ∈ t.publications, x.slot = y.slot ∧
            (x = y ∨ x = { y with onRing := true, sent := none } ∨
              (x.replay = true ∧ x.attempt = 1 ∧ x.sent = none))) ∧
        (t.counters.get counter).toNat = min 65535 ((s.counters.get counter).toNat + 1) ∧
        t.table = s.table ∧ t.controller = s.controller ∧ t.time = s.time)

/-! ### The transmit arbiter -/

/-- GRANT of a forwarded message, and no grant (R131, R133, R51): the link not free, or nothing eligible, changes
nothing; otherwise, unless the guard stands at 16 with an own message eligible, the insertion buffer's head leaves
with residence, air time and link allowance added to its transit, which stops at 65535. The part tick is log 13; the
guard at 16 with no own message eligible is log 11. With nothing left due (log 5); a command whose event cannot occur
changes nothing (log 3). -/
def Obligations.GrantForwardsOrWaits : Prop :=
  ∀ (s : State) (partTick : Bool), s.quiet →
    ((s.ring.mode = .passThrough ∨ s.ring.transmitter ≠ .idle) → exec (.grant partTick) s = .next s) ∧
    (s.ring.insertion = [] → (s.ring.sendQueue = [] ∨ s.controller.state.sendsOwn = false) →
      exec (.grant partTick) s = .next s) ∧
    (∀ w rest, s.ring.mode = .storeAndForward → s.ring.transmitter = .idle → s.ring.insertion = w :: rest →
      ¬ (s.ring.sendQueue ≠ [] ∧ s.controller.state.sendsOwn = true ∧ 16 ≤ s.ring.guardCount) →
      exec (.grant partTick) s =
        .next
          { s with
            ring :=
              { s.ring with
                insertion := rest
                transmitter := .forwarding
                  ({ w.message with
                    transit := BitVec.ofNat 16
                      (min 65535 (w.message.transit.toNat + (s.now - w.tick) + (if partTick then 1 else 0) +
                        airTime w.message.length + s.config.linkAllowance)) } : Message).bytes
                guardCount :=
                  if s.ring.sendQueue ≠ [] ∧ s.controller.state.sendsOwn = true then s.ring.guardCount + 1
                  else 0 } })

/-- GRANT of an own message (R130, R131, R132, R133, R50, R101, R160, R162): it leaves the send queue with the stamp
of this moment and counts of 0, its sequence stands at the newest end of recent sends, the guard count is 0, the sent
step of each ON-RING publication entry of its sequence and kind, two of them alike (log 23), or of its JOIN is recorded,
and it is watched when no watch is present. The kind codes are BEACON 1, JOIN 2, CUE 3, RELEASE 4 and ANSWER 7 (R187).
With nothing left due (log 5); the reports of room are left due (log 5). -/
def Obligations.GrantSendsOwn : Prop :=
  ([OwnKind.beacon, .join, .cue, .release, .answer].map OwnKind.code = [1#4, 2#4, 3#4, 4#4, 7#4]) ∧
  (PubKind.cue.ownKind = .cue ∧ PubKind.release.ownKind = .release) ∧
  ∀ (s : State) (partTick : Bool) (o : OwnMessage) (rest : List OwnMessage), s.quiet →
    s.ring.mode = .storeAndForward → s.ring.transmitter = .idle → s.ring.sendQueue = o :: rest →
    s.controller.state.sendsOwn = true → (s.ring.insertion = [] ∨ 16 ≤ s.ring.guardCount) →
    exec (.grant partTick) s =
      .next
        { s with
          ring :=
            { s.ring with
              sendQueue := rest
              recent :=
                (let joined := (s.ring.recent.filter fun x => x != o.sequence) ++ [o.sequence]
                 joined.drop (joined.length - 16))
              transmitter := .sendingOwn o.kind o.sequence
                ({ kind := o.kind.code, origin := s.ownId, target := o.target, sequence := o.sequence, hop := 0,
                   seen := 0, refused := 0, stampStep := s.time.step,
                   stampPhase := BitVec.ofNat 16 s.time.phase, transit := 0, payload := o.payload } : Message).bytes
              guardCount := 0 }
          publications := s.publications.map fun e =>
            if e.onRing = true ∧ e.sequence = o.sequence ∧ e.kind.ownKind = o.kind then
              { e with sent := some s.time.step }
            else e
          controller :=
            { s.controller with
              joinSent :=
                if o.kind = .join ∧ o.sequence ∈ s.controller.joinSequences then some s.time.step
                else s.controller.joinSent
              watch := some (s.controller.watch.getD s.time.step) }
          due := { s.due with entries := true, joinPlace := true } }

/-- The air time (R52): a message's length in bytes times 0.32 ticks, rounded up; its length is 18 bytes and the
payload; 18 bytes take 6 ticks and 50 bytes 16; forwarding leaves the length unchanged. -/
def Obligations.AirTime : Prop :=
  (∀ n, 32 * n ≤ 100 * airTime n ∧ 100 * airTime n < 32 * n + 100) ∧
    (∀ m : Message, m.length = 16 + m.payload.length + 2) ∧ airTime 18 = 6 ∧ airTime 50 = 16 ∧
    (∀ (s : State) (w : Waiting) (partTick : Bool),
      (s.departing w partTick).length = w.message.length ∧
        airTime (s.departing w partTick).length = airTime w.message.length)

/-- TRANSMISSION_END (R134, R168, R169): the transmitter becomes idle, and nothing else changes but at the end of the
ANSWER that a restart waits for, where every block takes its restart values: the node is in LISTEN with the grace of a
circuit limit, the cue table, the publications, the roster, the send queue and recent sends are emptied, the timebase
is UNSET and running, the outputs DARK with the active set kept, a pass in flight is counted aborted. CLASH performs
no restart. With nothing left due (log 5); a command whose event cannot occur changes nothing (log 3). -/
def Obligations.TransmissionEnds : Prop :=
  ∀ s : State, s.quiet →
    (s.ring.transmitter = .idle → exec .transmissionEnd s = .next s) ∧
    (∀ bytes, s.ring.transmitter = .forwarding bytes →
      exec .transmissionEnd s = .next { s with ring := { s.ring with transmitter := .idle } }) ∧
    (∀ kind q bytes, s.ring.transmitter = .sendingOwn kind q bytes →
      (kind ≠ .answer ∨ s.controller.restartPending ≠ some q ∨ s.controller.state.strips = false) →
      exec .transmissionEnd s = .next { s with ring := { s.ring with transmitter := .idle } }) ∧
    (∀ q bytes, s.ring.transmitter = .sendingOwn .answer q bytes → s.controller.restartPending = some q →
      s.controller.state.strips = true →
      exec .transmissionEnd s =
        .next
          { s with
            time := { step := 0, phase := 0, isSet := false, trimUsed := 0, running := true }
            table := List.replicate 48 .free
            composer := .reset
            pulse :=
              { s.pulse with running := true, pending := List.replicate 64 0, fresh := false, live := false }
            origins := List.replicate 16 .reset
            publications := []
            ring :=
              { s.ring with transmitter := .idle, sendQueue := [], recent := [], guardCount := 0 }
            roster := []
            controller := { Controller.reset with state := .listen, grace := s.config.circuitLimit }
            responder := .reset
            counters := if s.composer.pass.isSome then s.counters.bump .passAborted else s.counters
            due := .none })

/-! ### Placing, timeouts and expiries -/

/-- PLACE_WAITING_ENTRIES (R101, R112): in RING and ISOLATED the waiting entries are placed in list order, one per free
place, each as the message it holds, of its kind, sequence, target and payload; an entry placed is ON-RING with its sent
step absent and keeps the rest, every other entry stays as it is, and each entry placed at its first attempt is counted,
*replays sent* when it is a replay and *published* otherwise; elsewhere, or when nothing is due, none is placed, and
nothing else of the node changes. The mark that makes it due is log 5, and without it nothing happens (log 3). -/
def Obligations.WaitingEntriesArePlaced : Prop :=
  (∀ e : Publication,
    e.message =
      { kind := if e.kind = .cue then .cue else .release, sequence := e.sequence, target := e.target,
        payload := e.payload }) ∧
  (∀ s : State,
    (s.due.entries = false → exec .placeWaitingEntries s = .next s) ∧
    (s.due.entries = true →
      exec .placeWaitingEntries s =
        .next ({ s with due := { s.due with entries := false } } : State).placePublications)) ∧
  ∀ s : State,
    let t := s.placePublications
    let placed := (s.publications.filter fun e => !e.onRing).take (8 - s.ring.sendQueue.length)
    let first := fun (replay : Bool) => placed.countP fun e => e.attempt == 1 && e.replay == replay
    (s.controller.state.publishes = false → t = s) ∧
    (s.controller.state.publishes = true →
      t =
        { s with
          ring := { s.ring with sendQueue := s.ring.sendQueue ++ placed.map Publication.message }
          publications :=
            s.publications.mapIdx fun i e =>
              if e.onRing = false ∧
                  (s.publications.take i).countP (fun x => !x.onRing) < 8 - s.ring.sendQueue.length then
                { e with onRing := true, sent := none }
              else e
          counters := t.counters } ∧
        t.counters.published = Nat.repeat bumpCount (first false) s.counters.published ∧
        t.counters.replaysSent = Nat.repeat bumpCount (first true) s.counters.replaysSent ∧
        (∀ k, k ≠ .published → k ≠ .replaysSent → t.counters.get k = s.counters.get k))

/-- PLACE_WAITING_JOIN (R159): a JOIN that waits in ADMIT joins the send queue with the next sequence when there is
room; otherwise nothing is placed. Its payload is the channel base and count, the step length and the beacon interval
(R189). Its target is a free value (log 6). The mark that makes it due is log 5, and without it nothing happens
(log 3). -/
def Obligations.WaitingJoinIsPlaced : Prop :=
  (∀ c : NodeConfig,
    c.announcement =
      be16 (BitVec.ofNat 16 c.channelBase) ++ [BitVec.ofNat 8 c.channelCount] ++
        be16 (BitVec.ofNat 16 c.stepLength) ++ [BitVec.ofNat 8 c.beaconInterval]) ∧
  ∀ s : State, s.due.joinExpiry = false →
    (s.due.joinPlace = false → exec .placeWaitingJoin s = .next s) ∧
    (s.due.joinPlace = true →
      (s.controller.state = .admitting → s.controller.joinWaiting = true → s.ring.sendQueue.length < 8 →
        exec .placeWaitingJoin s =
          .next
            { s with
              due := { s.due with joinPlace := false }
              freeCount := s.freeCount + 1
              ring :=
                { s.ring with
                  nextSequence := s.ring.nextSequence + 1
                  sendQueue := s.ring.sendQueue ++
                    [{ kind := .join, sequence := s.ring.nextSequence, target := Config.ownTarget s.freeCount,
                       payload := s.config.announcement }] }
              controller :=
                { s.controller with
                  joinSequences := s.controller.joinSequences ++ [s.ring.nextSequence], joinWaiting := false }
              counters := s.counters.bump .joinAttempts }) ∧
      ((s.controller.state ≠ .admitting ∨ s.controller.joinWaiting = false ∨ 8 ≤ s.ring.sendQueue.length) →
        exec .placeWaitingJoin s = .next { s with due := { s.due with joinPlace := false } }))

/-- JOIN_EXPIRY (R160, R164): in ADMIT, with the sent step and a circuit limit behind, the attempt grows and a new
JOIN is placed or waits; after the third attempt the node enters ISOLATED, releases its outputs and records the step.
Otherwise nothing expires. The mark that makes it due is log 5, and without it nothing happens (log 3). The target of
the new message is a free value (log 6). -/
def Obligations.JoinExpires : Prop :=
  ∀ s : State,
    (s.due.joinExpiry = false → exec .joinExpiry s = .next s) ∧
    (s.due.joinExpiry = true →
      ((s.controller.state ≠ .admitting ∨ s.controller.joinSent = none ∨
          ∃ w, s.controller.joinSent = some w ∧
            stepBefore s.time.step (w + BitVec.ofNat 32 s.config.circuitLimit) = true) →
        exec .joinExpiry s = .next { s with due := { s.due with joinExpiry := false } }) ∧
      (∀ w, s.controller.state = .admitting → s.controller.joinSent = some w →
        stepAtOrAfter s.time.step (w + BitVec.ofNat 32 s.config.circuitLimit) = true →
        (s.controller.joinAttempt < 3 → s.ring.sendQueue.length < 8 →
          exec .joinExpiry s =
            .next
              { s with
                due := { s.due with joinExpiry := false }
                freeCount := s.freeCount + 1
                ring :=
                  { s.ring with
                    nextSequence := s.ring.nextSequence + 1
                    sendQueue := s.ring.sendQueue ++
                      [{ kind := .join, sequence := s.ring.nextSequence,
                         target := Config.ownTarget s.freeCount, payload := s.config.announcement }] }
                controller :=
                  { s.controller with
                    joinAttempt := s.controller.joinAttempt + 1
                    joinSent := none
                    joinSequences := s.controller.joinSequences ++ [s.ring.nextSequence]
                    joinWaiting := false }
                counters := s.counters.bump .joinAttempts }) ∧
        (s.controller.joinAttempt < 3 → 8 ≤ s.ring.sendQueue.length →
          exec .joinExpiry s =
            .next
              { s with
                due := { s.due with joinExpiry := false }
                controller :=
                  { s.controller with
                    joinAttempt := s.controller.joinAttempt + 1, joinSent := none, joinWaiting := true } }) ∧
        (3 ≤ s.controller.joinAttempt →
          exec .joinExpiry s =
            .next
              { s with
                due := { s.due with joinExpiry := false, entries := true }
                controller :=
                  { s.controller with
                    state := .isolated, wasIsolated := true, joinAttempt := 0, joinSequences := [],
                    joinSent := none, joinWaiting := false }
                counters := s.counters.bump .isolations
                composer := { s.composer with isolationEntry := some s.time.step }
                pulse := { s.pulse with live := true } })))

/-- WATCH_EXPIRY (R163, R164, R39): in ADMIT, RING and ISOLATED, a watch with a circuit limit behind becomes absent
and the miss count grows, up to 2; in RING a count of 2 takes the node to ISOLATED. Otherwise nothing expires. The
mark that makes it due is log 5, and without it nothing happens (log 3). -/
def Obligations.WatchExpires : Prop :=
  ∀ s : State,
    (s.due.watch = false → exec .watchExpiry s = .next s) ∧
    (s.due.watch = true →
      ((s.controller.state.sendsOwn = false ∨ s.controller.watch = none ∨
          ∃ w, s.controller.watch = some w ∧
            stepBefore s.time.step (w + BitVec.ofNat 32 s.config.circuitLimit) = true) →
        exec .watchExpiry s = .next { s with due := { s.due with watch := false } }) ∧
      (∀ w, s.controller.state.sendsOwn = true → s.controller.watch = some w →
        stepAtOrAfter s.time.step (w + BitVec.ofNat 32 s.config.circuitLimit) = true →
        ((s.controller.state ≠ .ring ∨ s.controller.missCount = 0) →
          exec .watchExpiry s =
            .next
              { s with
                due := { s.due with watch := false }
                controller :=
                  { s.controller with missCount := min 2 (s.controller.missCount + 1), watch := none } }) ∧
        (s.controller.state = .ring → 1 ≤ s.controller.missCount →
          exec .watchExpiry s =
            .next
              { s with
                due := { s.due with watch := false, entries := true }
                controller :=
                  { s.controller with
                    state := .isolated, wasIsolated := true, missCount := 2, watch := none, joinAttempt := 0,
                    joinSequences := [], joinSent := none, joinWaiting := false }
                counters := s.counters.bump .isolations
                composer := { s.composer with isolationEntry := some s.time.step }
                pulse := { s.pulse with live := true } })))

/-- LISTEN_END (R158, R56, R159): when the listen count has reached the listen length, the timebase is SET where it
stands and the node enters ADMIT with a JOIN placed, or waiting for room; that LISTEN has ended at this moment is noted
for a RESTART of the same moment (R170; log 5). The mark that makes it due is log 5, and
without it nothing happens (log 3). The target of the new message is a free value (log 6). That the JOIN is placed in
PASS-THROUGH too, where the upstream link has carried no IDLE, is the model's choice (log 25). -/
def Obligations.ListenEnds : Prop :=
  ∀ s : State,
    (s.due.listenEnd = false → exec .listenEnd s = .next s) ∧
    (s.due.listenEnd = true →
      ((s.controller.state ≠ .listen ∨ s.controller.listenCount < s.config.listenLength) →
        exec .listenEnd s = .next { s with due := { s.due with listenEnd := false } }) ∧
      (s.controller.state = .listen → s.config.listenLength ≤ s.controller.listenCount →
        (s.ring.sendQueue.length < 8 →
          exec .listenEnd s =
            .next
              { s with
                due := { s.due with listenEnd := false, listenEnded := true }
                freeCount := s.freeCount + 1
                time := { s.time with isSet := true }
                ring :=
                  { s.ring with
                    nextSequence := s.ring.nextSequence + 1
                    sendQueue := s.ring.sendQueue ++
                      [{ kind := .join, sequence := s.ring.nextSequence,
                         target := Config.ownTarget s.freeCount, payload := s.config.announcement }] }
                controller :=
                  { s.controller with
                    state := .admitting, joinAttempt := 1, joinSequences := [s.ring.nextSequence],
                    joinSent := none, joinWaiting := false }
                counters := s.counters.bump .joinAttempts }) ∧
        (8 ≤ s.ring.sendQueue.length →
          exec .listenEnd s =
            .next
              { s with
                due := { s.due with listenEnd := false, listenEnded := true }
                time := { s.time with isSet := true }
                controller :=
                  { s.controller with
                    state := .admitting, joinAttempt := 1, joinSequences := [], joinSent := none,
                    joinWaiting := true } })))

/-- PEER_SILENT and PEER_GONE (R146, R147, R22): with the entry's beacon interval, or the node's own, an entry at 3
intervals of silence becomes SILENT, and one at 8 is removed, its origin's LIVE entries with policy DROP becoming
tombstones of the current step. The mark that makes it due is log 5, and without it nothing happens (log 3). With the
freeing of old tombstones behind PEER_GONE, where a pass has started (log 5). -/
def Obligations.PeersFallSilentAndGo : Prop :=
  ∀ s : State,
    let limit := fun (p : Peer) => (p.interval.map BitVec.toNat).getD s.config.beaconInterval
    (s.due.peerSilent = false → exec .peerSilent s = .next s) ∧
    (s.due.peerSilent = true →
      exec .peerSilent s =
        .next
          { s with
            due := { s.due with peerSilent := false }
            roster := s.roster.map fun p =>
              if 3 * limit p ≤ p.silence ∧ p.silence < 8 * limit p then { p with silent := true } else p }) ∧
    (s.due.tombstones = false → s.due.peerGone = false → exec .peerGone s = .next s) ∧
    (s.due.tombstones = false → s.due.peerGone = true →
      exec .peerGone s =
        .next
          { s with
            due := { s.due with peerGone := false }
            roster := s.roster.filter fun p => decide (p.silence < 8 * limit p)
            table := s.table.map fun slot =>
              match slot with
              | .live e =>
                if e.cue.orphan = .drop ∧ ∃ p ∈ s.roster, p.id = e.cue.origin ∧ 8 * limit p ≤ p.silence then
                  .tombstone { origin := e.cue.origin, number := e.cue.number, revision := e.cue.revision,
                               step := s.time.step }
                else .live e
              | other => other })

/-- BEACON_DUE (R9, R174, R175, R176, R177): in RING and ISOLATED a BEACON that is due joins the send queue with the
next sequence and the values of this moment, and the summary flags are cleared; with the queue full it is skipped and
counted, and the flags stay; in either case the countdown is the beacon interval. The mark that makes it due is log 5,
and without it nothing happens (log 3). The target of the new message is a free value (log 6). With the freeing of old
tombstones behind it, where a pass has started (log 5). -/
def Obligations.BeaconsArePlacedOrSkipped : Prop :=
  (∀ table : List Slot,
    liveCount table =
        table.countP (fun slot =>
          match slot with
          | .live _ => true
          | _ => false) ∧
      tombstoneCount table =
        table.countP (fun slot =>
          match slot with
          | .tombstone _ => true
          | _ => false)) ∧
  ∀ s : State, s.due.tombstones = false →
    (s.due.beacon = false → exec .beaconDue s = .next s) ∧
    (s.due.beacon = true →
      (s.controller.state.publishes = false →
        exec .beaconDue s = .next { s with due := { s.due with beacon := false } }) ∧
      (s.controller.state.publishes = true → 8 ≤ s.ring.sendQueue.length →
        exec .beaconDue s =
          .next
            { s with
              due := { s.due with beacon := false }
              responder := { s.responder with countdown := s.config.beaconInterval }
              counters := s.counters.bump .beaconSkipped }) ∧
      (s.controller.state.publishes = true → s.ring.sendQueue.length < 8 →
        exec .beaconDue s =
          .next
            { s with
              due := { s.due with beacon := false }
              freeCount := s.freeCount + 1
              responder :=
                { countdown := s.config.beaconInterval, lateSeen := false, refusalSeen := false,
                  overflowSeen := false }
              ring :=
                { s.ring with
                  nextSequence := s.ring.nextSequence + 1
                  sendQueue := s.ring.sendQueue ++
                    [{ kind := .beacon, sequence := s.ring.nextSequence, target := Config.ownTarget s.freeCount,
                       payload :=
                        be16 (BitVec.ofNat 16 s.config.channelBase) ++ [BitVec.ofNat 8 s.config.channelCount] ++
                        be16 (BitVec.ofNat 16 s.config.stepLength) ++ [BitVec.ofNat 8 s.config.beaconInterval] ++
                        [if s.controller.state = .ring then 4#8 else 5#8, BitVec.ofNat 8 (liveCount s.table),
                         BitVec.ofNat 8 (tombstoneCount s.table), BitVec.ofNat 8 s.publications.length] ++
                        be16 s.counters.jump ++
                        [(if s.responder.lateSeen then 4#8 else 0#8) |||
                          (if s.responder.refusalSeen then 2#8 else 0#8) |||
                          (if s.responder.overflowSeen then 1#8 else 0#8), 0#8, 0#8, 0#8] }] } }))

/-- PUBLICATION_TIMEOUT (R104, R109): entries whose sent step and a circuit limit are behind time out; at attempt 1 or
2 an entry stays with its attempt grown and waits again, and at attempt 3 it leaves the list, its slot recording
FAILED, and is counted. The waiting entries are then placed (R101) and the replay feed runs (R108; log 14). The mark
that makes it due is log 5, and without it nothing happens (log 3). -/
def Obligations.PublicationsTimeOut : Prop :=
  ∀ s : State,
    let late := fun (e : Publication) =>
      e.onRing && (e.sent.map fun w => stepAtOrAfter s.time.step (w + BitVec.ofNat 32 s.config.circuitLimit)).getD false
    let failed := s.publications.filter fun e => late e && decide (3 ≤ e.attempt)
    (s.due.publications = false → exec .publicationTimeout s = .next s) ∧
    (s.due.publications = true →
      exec .publicationTimeout s =
        .next
          ((({ s with
              due := { s.due with publications := false }
              publications :=
                (s.publications.filter fun e => !(late e && decide (3 ≤ e.attempt))).map fun e =>
                  if late e then { e with attempt := e.attempt + 1, onRing := false, sent := none } else e
              origins := s.origins.mapIdx fun i o =>
                if ∃ e ∈ failed, e.slot = i then { o with outcome := .failed, counts := none } else o
              counters := failed.foldl (fun c _ => c.bump .failed) s.counters } : State).placePublications).feedReplays))

/-! ### The step boundary, the composer, the pulse unit -/

/-- TOMBSTONE_FREED (R24): a tombstone whose step + 256 is at or before the pass's target is freed, and nothing else
changes. The mark that makes it due is log 5, and without it nothing happens (log 3). -/
def Obligations.OldTombstonesAreFreed : Prop :=
  ∀ s : State,
    (s.due.tombstones = false → exec .tombstoneFreed s = .next s) ∧
    (s.due.tombstones = true →
      exec .tombstoneFreed s =
        .next
          { s with
            due := { s.due with tombstones := false }
            table := s.table.map fun slot =>
              match slot with
              | .tombstone t => if stepAtOrAfter s.time.step (t.step + 256) then .free else .tombstone t
              | other => other })

/-- The work left due (log 5; R48, R129, R153, R170): finishing it is running its rows one after another, the
placings of what waits for room last and the end of LISTEN before them, and leaves nothing due; with it the moment
of the boundary is over, at which a RESTART falls together with an end of LISTEN. It is finished
before a GRANT, a TRANSMISSION_END, a TRIGGER_SAMPLE and a tick; before an END and an ORDINARY_ADVANCE all but
the placings, and before a RESTART all but the placings and the end of LISTEN; before a PASS_COMPLETE, a
PEER_GONE and a BEACON_DUE the freeing of old tombstones, which is step 1 of a pass start (R29); before a
PLACE_WAITING_JOIN the judging of the JOIN wait (R160). -/
def Obligations.DueWorkIsFinishedFirst : Prop :=
  ∀ s : State,
    let run := fun (rows : List Instr) =>
      rows.foldl (fun t row => match exec row t with | .next u => u | .fault _ => t | .refused _ => t) s
    let boundary := [Instr.tombstoneFreed, .peerSilent, .peerGone, .publicationTimeout, .joinExpiry, .watchExpiry,
      .strayEchoAgeExpiry, .beaconDue]
    s.settleBoundary = run boundary ∧ s.settleMoment = run (boundary ++ [.listenEnd]) ∧
      s.settle = { run (boundary ++ [.listenEnd, .placeWaitingJoin, .placeWaitingEntries]) with due := .none } ∧
      s.settle.quiet ∧ s.settleMoment.momentDone ∧ s.settleBoundary.boundaryDone ∧
      s.settleBoundary.due.listenEnd = s.due.listenEnd ∧
      s.settleBoundary.due.listenEnded = s.due.listenEnded ∧
      (∀ partTick, exec (.grant partTick) s = exec (.grant partTick) s.settle) ∧
      exec .transmissionEnd s = exec .transmissionEnd s.settle ∧
      (∀ levels between,
        exec (.triggerSample levels between) s = exec (.triggerSample levels between) s.settle) ∧
      (s.pending = [] → step s = step s.settle) ∧
      exec .ordinaryAdvance s = exec .ordinaryAdvance s.settleMoment ∧
      (∀ row, rowEndsReception row = true → row ≠ .restart → exec row s = exec row s.settleMoment) ∧
      exec .restart s = exec .restart s.settleBoundary ∧
      (∀ row ∈ [Instr.passComplete, .peerGone, .beaconDue], exec row s = exec row (run [.tombstoneFreed])) ∧
      (s.due.joinPlace = true → exec .placeWaitingJoin s = exec .placeWaitingJoin (run [.joinExpiry]))

/-- ORDINARY_ADVANCE (R47, R48, R29, R30, R109): at phase L - 1, with a boundary behind it finished, the tick passes,
the phase and the trim used become 0, N advances by one, and the boundary is taken: the node state and the set flag
decide on the pass, the slots and the counts, and the rest is left due; an end of LISTEN of an earlier moment is
noted no longer (log 5). What a clock has reached is taken before it, in the order of a cycle start (log 17), a pass
that has had 124 ticks (log 7) and a sample of the lines as last seen. At another phase, or HELD, nothing happens
(log 4). The counts of a tick are log 4 and log 7. The node takes part in the ring from LISTEN on, strips its own id
outside CLASH, sends its own messages from ADMIT on outside CLASH, and publishes in RING and ISOLATED (R119, R132,
R101). -/
def Obligations.OrdinaryAdvance : Prop :=
  (let states := [NodeState.loading, .unconfigured, .listen, .admitting, .ring, .isolated, .clash]
   states.map NodeState.takesPart = [false, false, true, true, true, true, true] ∧
     states.map NodeState.strips = [false, false, true, true, true, true, false] ∧
     states.map NodeState.sendsOwn = [false, false, false, true, true, true, false] ∧
     states.map NodeState.publishes = [false, false, false, false, true, true, false]) ∧
  ∀ s : State, s.momentDone →
    let cycle := s.pulse.running && s.pulse.cycleDue
    let bound := (s.composer.pass.map fun p => decide (124 ≤ p.age)).getD false
    ((s.time.running = false ∨ s.time.phase + 1 < s.config.stepLength) → exec .ordinaryAdvance s = .next s) ∧
    (s.time.running = true → s.config.stepLength ≤ s.time.phase + 1 →
      (cycle = true →
        ∃ t, exec .cycleStart s = .next t ∧ exec .ordinaryAdvance s = exec .ordinaryAdvance t ∧
          s.clockMoments = t.clockMoments) ∧
      (cycle = false → bound = true →
        ∃ t, exec .passComplete s = .next t ∧ exec .ordinaryAdvance s = exec .ordinaryAdvance t ∧
          s.clockMoments = t) ∧
      (cycle = false → bound = false → s.clockMoments = s) ∧
      (cycle = false → bound = false → s.sampleDue = true → 0 < s.config.sampleInterval →
        let t := s.sampleLines s.trigger.lines false
        exec .ordinaryAdvance s = exec .ordinaryAdvance t ∧
          (s.quiet → exec (.triggerSample s.trigger.lines false) s = .next t))) ∧
    (s.time.running = true → s.config.stepLength ≤ s.time.phase + 1 → cycle = false → bound = false →
      s.sampleDue = false →
      let n := s.time.step + 1
      let starts := s.time.isSet && s.controller.state.takesPart
      let failsafe := decide (s.config.failsafePolicy = .failsafeLevel) &&
        (s.composer.isolationEntry.map fun w =>
          stepAtOrAfter n (w + BitVec.ofNat 32 s.config.isolationHold)).getD false
      let due := { s.due with listenEnded := false }
      ∃ t, exec .ordinaryAdvance s = .next t ∧ t = ({ s with due := due } : State).passTick ∧
        t =
          ({ s.tickCounts with
              due := due, time := { s.time with step := n, phase := 0, trimUsed := 0 } } : State).boundary ∧
        t.time = { s.time with step := n, phase := 0, trimUsed := 0 } ∧
        t.now = s.now + 1 ∧ t.config = s.config ∧ t.ring = s.ring ∧ t.publications = s.publications ∧
        t.pulse =
          (if s.pulse.running then s.pulse.advance s.config.pwmMode s.config.countsPerTick else s.pulse) ∧
        t.trigger =
          (if s.trigger.running then { s.trigger with countdown := s.trigger.countdown - 1 } else s.trigger) ∧
        t.table = (if starts then s.table.map (slotAtPass n) else s.table) ∧
        (starts = true →
          t.composer =
            { s.composer with
              pass := some
                { target := n, progress := 0, failsafe := failsafe, view := liveEntries t.table, age := 0 } }) ∧
        (starts = false →
          t.composer.record = s.composer.record ∧ t.composer.isolationEntry = s.composer.isolationEntry ∧
            t.composer.pass.map Pass.target = s.composer.pass.map Pass.target) ∧
        t.counters =
          (if starts then
            (let aborted := if s.composer.pass.isSome then s.counters.bump .passAborted else s.counters
             if failsafe then aborted.bump .failsafeSteps else aborted)
           else s.counters) ∧
        t.origins = (if s.time.isSet then s.origins.map (fun o => o.atBoundary n) else s.origins) ∧
        t.roster = s.roster.map (fun p => { p with silence := p.silence + 1 }) ∧
        t.controller =
          { s.controller with
            listenCount :=
              if s.controller.state = .listen then min 255 (s.controller.listenCount + 1)
              else s.controller.listenCount
            strayAges :=
              if s.controller.state.strips then s.controller.strayAges.map (· + 1) else s.controller.strayAges
            grace := if s.controller.state.strips then s.controller.grace - 1 else s.controller.grace } ∧
        t.responder =
          (if s.controller.state.publishes then
            { s.responder with countdown := s.responder.countdown - 1 } else s.responder) ∧
        t.due =
          { tombstones := starts
            peerSilent := true
            peerGone := true
            publications := s.time.isSet
            joinExpiry := s.controller.state == .admitting
            joinPlace := s.due.joinPlace || s.controller.state == .admitting
            watch := s.controller.state.sendsOwn
            listenEnd := s.controller.state == .listen
            listenEnded := false
            strayAges := s.controller.state.strips
            beacon := s.controller.state.publishes && decide (s.responder.countdown ≤ 1)
            entries := s.due.entries })

/-- The boundary's pass (R29, R30, R39, R40, R26): with the timebase SET and the node taking part, a pass in flight is
aborted and counted, and a pass for the new step starts from the LIVE entries of the table as the work on the LIVE
entries leaves it; free slots and tombstones stay, and that old tombstones, which step 1 of the pass start frees (R24),
are left due to be freed is log 5. It is a failsafe pass, and counted, when the policy is FAILSAFE-LEVEL and the step
is at or after the isolation entry step and the hold. Otherwise no pass starts and none is aborted. With the timebase
SET every origin slot is brought up to the step (R109). -/
def Obligations.BoundaryStartsAPass : Prop :=
  (∀ table : List Slot,
    liveEntries table =
      table.filterMap fun slot =>
        match slot with
        | .live e => some e
        | _ => none) ∧
  ∀ s : State,
    let pastHold := (s.composer.isolationEntry.map fun w =>
      stepAtOrAfter s.time.step (w + BitVec.ofNat 32 s.config.isolationHold)).getD false
    let failsafe := decide (s.config.failsafePolicy = .failsafeLevel) && pastHold
    (s.time.isSet = true → s.controller.state.takesPart = true →
      s.boundary.table = s.table.map (slotAtPass s.time.step) ∧
      slotAtPass s.time.step .free = .free ∧
      (∀ x, slotAtPass s.time.step (.tombstone x) = .tombstone x) ∧
      s.boundary.due.tombstones = true ∧
      s.boundary.composer =
        { s.composer with
          pass := some
            { target := s.time.step, progress := 0, failsafe := failsafe,
              view := liveEntries (s.table.map (slotAtPass s.time.step)), age := 0 } } ∧
      s.boundary.counters =
        (let aborted := if s.composer.pass.isSome then s.counters.bump .passAborted else s.counters
         if failsafe then aborted.bump .failsafeSteps else aborted)) ∧
    ((s.time.isSet = false ∨ s.controller.state.takesPart = false) →
      s.boundary.table = s.table ∧ s.boundary.composer = s.composer ∧ s.boundary.counters = s.counters) ∧
    s.boundary.origins = (if s.time.isSet then s.origins.map (fun o => o.atBoundary s.time.step) else s.origins)

/-- The pass-start work on one LIVE entry (R23): before its start it is PENDING; otherwise it is FADING from its release
step on, and else ACTIVE; at its end step, or when its fade is over, it becomes a tombstone of its key and revision with
the target as its step. The start of a pass takes each LIVE entry through it. -/
def Obligations.PassStartBringsEntriesUp : Prop :=
  ∀ (n : StepNo) (e : LiveEntry),
    let grave : Slot :=
      .tombstone { origin := e.cue.origin, number := e.cue.number, revision := e.cue.revision, step := n }
    let ended := (e.cue.stop.map (stepAtOrAfter n)).getD false
    (stepBefore n e.cue.start = true → slotAtPass n (.live e) = .live { e with phase := .pending }) ∧
    (stepBefore n e.cue.start = false →
      (ended = true → slotAtPass n (.live e) = grave) ∧
      (ended = false →
        (e.release = none → slotAtPass n (.live e) = .live { e with phase := .active }) ∧
        (∀ r, e.release = some r →
          (stepAtOrAfter n r.step = false → slotAtPass n (.live e) = .live { e with phase := .active }) ∧
          (stepAtOrAfter n r.step = true →
            (stepAtOrAfter n (r.step + r.fade.setWidth 32) = true → slotAtPass n (.live e) = grave) ∧
            (stepAtOrAfter n (r.step + r.fade.setWidth 32) = false →
              slotAtPass n (.live e) = .live { e with phase := .fading }))))) ∧
    ∀ (s : State) (i : Nat), s.table[i]? = some (.live e) →
      (s.startPass n).table[i]? = some (slotAtPass n (.live e))

/-- PASS_COMPLETE (R42, R71, R28): the pass in flight ends, its 64 duties stand in the pending set, marked fresh, and
its levels and duties in the composed record; a pending set still fresh is counted as superseded; nothing else
changes. That the command completes the pass at its moment is log 7. Without a pass the command is turned away (log 3).
With the freeing of old tombstones, step 1 of the pass start, behind it (log 5). -/
def Obligations.PassCompletes : Prop :=
  ∀ s : State, s.due.tombstones = false →
    (s.composer.pass = none → exec .passComplete s = .next s) ∧
    (∀ p, s.composer.pass = some p →
      let level := fun i => if p.failsafe then s.config.failsafeLevel
        else composedLevel p.view p.target (s.config.channelBase + i)
      let results := (List.range 64).map fun i =>
        if i < s.config.channelCount then
          ({ level := level i, duty := s.config.outputCurve.duty (level i) } : Composed)
        else { level := 0, duty := 0 }
      results = p.results s.config ∧ results = (List.range 64).map (p.composed s.config) ∧
      exec .passComplete s =
        .next
          { s with
            composer := { s.composer with pass := none, record := results }
            pulse := { s.pulse with pending := results.map Composed.duty, fresh := true }
            counters := if s.pulse.fresh then s.counters.bump .setSuperseded else s.counters })

/-- The order in which entries are applied (R33): the same entries, priority ascending, then the start step that lies
further behind the target first, then origin, then cue number. What each applies: the unfaded value of a FIXED, RAMP,
ALTERNATE and GRADIENT cue (R35, R36, R37), reduced over its fade when FADING (R38), combined by REPLACE, HIGHEST and
SCALE (R34); the composed level is the result from 0 over the entries that cover the channel, in that order (R32).
Levels and duties stay on the scale 0..4095 (R41), and a channel that no entry covers has level 0. -/
def Obligations.CompositionOrderAndRange : Prop :=
  (∀ (n : StepNo) (l : List LiveEntry), (∀ e ∈ l, stepAtOrAfter n e.cue.start = true) →
      (applicationOrder l).Perm l ∧
      (applicationOrder l).Pairwise fun a b =>
        a.cue.priority.toNat < b.cue.priority.toNat ∨ a.cue.priority = b.cue.priority ∧
          ((n - b.cue.start).toNat < (n - a.cue.start).toNat ∨ a.cue.start = b.cue.start ∧
            (a.cue.origin.toNat < b.cue.origin.toNat ∨ a.cue.origin = b.cue.origin ∧
              a.cue.number.toNat ≤ b.cue.number.toNat))) ∧
  (∀ (view : List LiveEntry) (n : StepNo) (c : Nat), composedLevel view n c ≤ 4095) ∧
    (∀ (view : List LiveEntry) (n : StepNo) (c : Nat),
      (∀ e ∈ view, ¬ (e.phase ≠ .pending ∧ e.cue.first.toNat ≤ c ∧ c ≤ e.cue.last.toNat)) →
      composedLevel view n c = 0) ∧
    (∀ (p : Pass) (c : NodeConfig), c.failsafeLevel ≤ 4095 →
      ∀ x ∈ p.results c, x.level ≤ 4095 ∧ x.duty ≤ 4095) ∧
    (∀ (view : List LiveEntry) (n : StepNo) (c : Nat),
      let covering := view.filter fun e =>
        decide (e.phase ≠ .pending ∧ e.cue.first.toNat ≤ c ∧ c ≤ e.cue.last.toNat)
      composedLevel view n c =
        (applicationOrder covering).foldl (fun result e => e.cue.blend.apply result (e.value n c)) 0) ∧
    (∀ result v, Blend.apply .replace result v = v ∧ Blend.apply .highest result v = max result v ∧
      Blend.apply .scale result v = result * v / 4095) ∧
    (∀ (q : Cue) (n : StepNo) (c : Nat),
      let l0 := q.l0.toNat
      let l1 := q.l1.toNat
      let k := (n - q.start).toNat
      let first := q.first.toNat
      let last := q.last.toNat
      (q.function = .fixed → q.unfaded n c = l0) ∧
      (q.function = .ramp →
        (q.d.toNat ≤ k → q.unfaded n c = l1) ∧
        (k < q.d.toNat →
          (l0 ≤ l1 → q.unfaded n c = l0 + (l1 - l0) * k / q.d.toNat) ∧
          (l1 < l0 → q.unfaded n c = l0 - (l0 - l1) * k / q.d.toNat))) ∧
      (q.function = .alternate → q.unfaded n c = if k / q.d.toNat % 2 = 0 then l0 else l1) ∧
      (q.function = .gradient →
        (first = last → q.unfaded n c = l0) ∧
        (first < last →
          (l0 ≤ l1 → q.unfaded n c = l0 + (l1 - l0) * (c - first) / (last - first)) ∧
          (l1 < l0 → q.unfaded n c = l0 - (l0 - l1) * (c - first) / (last - first))))) ∧
    (∀ (e : LiveEntry) (n : StepNo) (c : Nat),
      (e.phase = .active → e.value n c = e.cue.unfaded n c) ∧
      (∀ r, e.phase = .fading → e.release = some r →
        e.value n c = e.cue.unfaded n c * (r.fade.toNat - (n - r.step).toNat) / r.fade.toNat))

/-- The output curve (R41): LINEAR gives the level, SQUARE level × level / 4095 rounded down; both keep 0 and 4095;
under SQUARE the levels 1..63 give 0 and 64 gives 1; it applies to the failsafe level as well, and offsets from the
count to 63 take duty 0. -/
def Obligations.OutputCurves : Prop :=
  (∀ level, OutputCurve.duty .linear level = level ∧ OutputCurve.duty .square level = level * level / 4095) ∧
    (∀ curve : OutputCurve, curve.duty 0 = 0 ∧ curve.duty 4095 = 4095 ∧ ∀ level ≤ 4095, curve.duty level ≤ 4095) ∧
    (∀ level, 1 ≤ level → level ≤ 63 → OutputCurve.duty .square level = 0) ∧ OutputCurve.duty .square 64 = 1 ∧
    (∀ (p : Pass) (c : NodeConfig) (i : Nat),
      (i < c.channelCount → (p.composed c i).duty = c.outputCurve.duty (p.composed c i).level) ∧
      (i < c.channelCount → p.failsafe = true → (p.composed c i).duty = c.outputCurve.duty c.failsafeLevel) ∧
      (c.channelCount ≤ i → (p.composed c i).duty = 0))

/-- CYCLE_START (R72, R73). Taken in LIVE, the pending set becomes active when it is fresh or the unit was zeroed, and
the active set stays otherwise; both marks are cleared. Taken in DARK, the active set is all zeros, the pending set is
kept and marked not fresh, zeroed is set, and every output is low at every count of the cycle. Nothing else changes,
and without a cycle start reached nothing happens (log 17). -/
def Obligations.CycleStarts : Prop :=
  ∀ s : State,
    ((s.pulse.running = false ∨ s.pulse.cycleDue = false) → exec .cycleStart s = .next s) ∧
    (s.pulse.running = true → s.pulse.cycleDue = true → s.pulse.live = true →
      exec .cycleStart s =
        .next
          { s with
            pulse :=
              { s.pulse with
                active := if s.pulse.fresh = true ∨ s.pulse.zeroed = true then s.pulse.pending else s.pulse.active
                fresh := false
                zeroed := false
                cycleDue := false } }) ∧
    (s.pulse.running = true → s.pulse.cycleDue = true → s.pulse.live = false →
      exec .cycleStart s =
        .next
          { s with
            pulse :=
              { s.pulse with
                active := List.replicate 64 0, fresh := false, zeroed := true, cycleDue := false } } ∧
      ∀ (t : State) (count : Nat) (up : Bool) (i : Nat), exec .cycleStart s = .next t →
        ({ t.pulse with counter := count, up := up } : PulseUnit).output t.config i = false)

/-- The high counts of one cycle (R69, R70): while HALTED every output is low; an output of duty 0 is low and one of
duty 4095 high at every count; of a duty u in 1..4094 an output is high in EDGE mode at each count c for which (c −
offset × stagger) mod 4096 is less than u, and in CENTRE mode at 4095 − u or above; so an EDGE cycle of 4096 counts has
u high counts whatever the stagger, and a CENTRE cycle of 4096 counts up and 4094 down has 2u + 1. -/
def Obligations.HighCountsOfACycle : Prop :=
  (∀ (p : PulseUnit) (c : NodeConfig) (i : Nat), p.running = false → p.output c i = false) ∧
  ∀ (p : PulseUnit) (c : NodeConfig) (i : Nat), p.running = true → i < 64 → c.stagger ≤ 63 →
    let u := p.active.getD i 0
    let high := fun (count : Nat) => ({ p with counter := count } : PulseUnit).output c i
    (u = 0 → ∀ count, high count = false) ∧
    (u = 4095 → ∀ count, high count = true) ∧
    (1 ≤ u → u ≤ 4094 →
      (∀ count, count < 4096 →
        (c.pwmMode = .edge → (high count = true ↔ ((count : Int) - i * c.stagger) % 4096 < u)) ∧
        (c.pwmMode = .centre → (high count = true ↔ 4095 - u ≤ count))) ∧
      (c.pwmMode = .edge → (List.range 4096).countP high = u) ∧
      (c.pwmMode = .centre →
        (List.range 4096).countP high + ((List.range 4094).map (· + 1)).countP high = 2 * u + 1))

/-- The PWM counter (R66, R67, R68): a tick of 1 µs holds 64, 32, 16 or 8 counts for a divider of 1, 2, 4 or 8; k
counts move it as k single counts do; a single count goes up by one from 0 to 4095 and wraps (EDGE), or turns at 4095
and at 0 (CENTRE). That a move is of many counts at once, and that reaching 0 leaves a cycle start to be taken, is log
17. -/
def Obligations.CounterMovesByCounts : Prop :=
  (∀ c : NodeConfig,
    (c.clockDivider = 1 → c.countsPerTick = 64) ∧ (c.clockDivider = 2 → c.countsPerTick = 32) ∧
      (c.clockDivider = 4 → c.countsPerTick = 16) ∧ (c.clockDivider = 8 → c.countsPerTick = 8)) ∧
  ∀ (p : PulseUnit) (k : Nat), p.counter < 4096 → k < 4096 →
    (p.up = true →
      p.advance .edge (k + 1) = (p.advance .edge k).advance .edge 1 ∧
      p.advance .edge 1 =
        (if p.counter = 4095 then { p with counter := 0, cycleDue := true }
         else { p with counter := p.counter + 1 })) ∧
    ((p.up = false → 1 ≤ p.counter ∧ p.counter ≤ 4094) →
      p.advance .centre (k + 1) = (p.advance .centre k).advance .centre 1 ∧
      p.advance .centre 1 =
        (if p.up then
          (if p.counter = 4095 then { p with counter := 4094, up := false }
           else { p with counter := p.counter + 1 })
         else if p.counter = 1 then { p with counter := 0, up := true, cycleDue := true }
         else { p with counter := p.counter - 1 }))

/-! ### Shared time -/

/-- Adoption of a stamp (R53, R54, R55, R57, R58, R59, R61). A stamp is used only from another origin that the roster
has compatible, with a transit below 65535 and a phase below L; any other leaves the node as it is. A stamp that is
used sets an UNSET timebase to the estimate, uncounted, with the tombstones restamped (R25) and one boundary; a SET one
ignores an origin level or behind, jumps to one ahead by L/8 or more, with one boundary when the step changes, ignores
one within the tolerance, and trims toward any other by at most the room left in the step, with one boundary when the
step ends. Nothing else moves the time, and nothing else of the node changes but by that boundary. -/
def Obligations.AdoptionMovesTheTime : Prop :=
  (∀ (s : State) (m : Message), 500 ≤ s.config.stepLength → s.time.phase < s.config.stepLength →
      let L := s.config.stepLength
      let t := m.transit.toNat + airTime m.length + s.config.linkAllowance
      let estimate := (m.stampStep.toNat * L + m.stampPhase.toNat + t) % (L * 2 ^ 32)
      let own := s.time.step.toNat * L + s.time.phase
      let d := (estimate + L * 2 ^ 32 - own) % (L * 2 ^ 32)
      let room := L / 8 - s.time.trimUsed
      let a := min d room
      let step := m.stampStep + BitVec.ofNat 32 ((m.stampPhase.toNat + t) / L)
      let phase := (m.stampPhase.toNat + t) % L
      let trimmed := if a < d then (s.counters.bump .trim).bump .trimLimited else s.counters.bump .trim
      (s.time.isSet = false →
        s.adopt m =
          ({ s with
              table := s.table.map fun slot =>
                match slot with
                | .tombstone x => .tombstone { x with step := step }
                | other => other
              time := { s.time with step := step, phase := phase, isSet := true, trimUsed := 0 } } : State).boundary) ∧
      (s.time.isSet = true →
        ((d = 0 ∨ L * 2 ^ 31 ≤ d) → s.adopt m = s) ∧
        (1 ≤ d → d < L * 2 ^ 31 →
          (L ≤ 8 * d →
            (step = s.time.step →
              s.adopt m =
                { s with counters := s.counters.bump .jump, time := { s.time with phase := phase } }) ∧
            (step ≠ s.time.step →
              s.adopt m =
                ({ s with
                    counters := s.counters.bump .jump
                    time := { s.time with step := step, phase := phase, trimUsed := 0 } } : State).boundary)) ∧
          (8 * d < L → d ≤ s.config.tolerance → s.adopt m = s) ∧
          (8 * d < L → s.config.tolerance < d →
            (a = 0 → s.adopt m = { s with counters := s.counters.bump .trimLimited }) ∧
            (1 ≤ a → s.time.phase + a < L →
              s.adopt m =
                { s with
                  counters := trimmed
                  time := { s.time with phase := s.time.phase + a, trimUsed := s.time.trimUsed + a } }) ∧
            (1 ≤ a → L ≤ s.time.phase + a →
              s.adopt m =
                ({ s with
                    counters := trimmed
                    time :=
                      { s.time with
                        step := s.time.step + 1, phase := s.time.phase + a - L,
                        trimUsed := s.time.phase + a - L } } : State).boundary))))) ∧
  (∀ (s : State) (m : Message),
      ((m.origin = s.ownId ∨ s.senderCompatible m.origin = false ∨ m.transit = 65535#16 ∨
          s.config.stepLength ≤ m.stampPhase.toNat) → s.offerStamp m = s) ∧
      (m.origin ≠ s.ownId → s.controller.state.takesPart = true → s.senderCompatible m.origin = true →
        m.transit ≠ 65535#16 → m.stampPhase.toNat < s.config.stepLength → s.offerStamp m = s.adopt m))

/-! ### Triggers and publications -/

/-- TRIGGER_SAMPLE (R82, R83, R84, R87, R88): a sample that is due restarts the countdown and updates each input:
agreement clears the disagreement count, a first, second or third disagreement raises it, and a fourth changes the
filtered level and captures the time; then the actions of the edges are taken, input by input and binding by binding. A
sample that is not due is turned away (log 3). With a boundary of the same moment taken between, a cycle start and the
bound of a pass that the clocks have reached are taken, the tick that ends the step passes, and its boundary is
finished, before the actions, of which a sample may yield several: before the first of them and never between two (R92,
log 18). A sample is due when sampling runs and its countdown is over; a binding answers the edges of its own kind, or
both (R87). With nothing left due (log 5). -/
def Obligations.SamplesAreFiltered : Prop :=
  (∀ (field : BindingEdge) (edge : Edge),
    field.answers edge = true ↔
      field = .both ∨ (field = .rise ∧ edge = .rise) ∨ (field = .fall ∧ edge = .fall)) ∧
  (∀ s : State, s.sampleDue = true ↔ s.trigger.running = true ∧ s.trigger.countdown = 0) ∧
  ∀ (s : State) (levels : BitVec 8) (between : Bool), s.quiet →
    (s.sampleDue = false → exec (.triggerSample levels between) s = .next s) ∧
    (s.sampleDue = true →
      let kind := fun (i : Nat) => if levels.getLsbD i then Edge.rise else Edge.fall
      let capture := fun (i : Nat) =>
        ({ edge := kind i, step := s.time.step, phase := s.time.phase, isSet := s.time.isSet } : Capture)
      let sampled : State :=
        { s with
          trigger :=
            { s.trigger with
              countdown := s.config.sampleInterval
              lines := levels
              inputs := s.trigger.inputs.mapIdx fun i x =>
                if levels.getLsbD i = x.level then { x with count := 0 }
                else if x.count < 3 then { x with count := x.count + 1 }
                else { level := levels.getLsbD i, count := 0, capture := some (capture i) } } }
      let actions : List (Binding × Capture) :=
        s.trigger.inputs.zipIdx.flatMap fun xi =>
          if levels.getLsbD xi.2 ≠ xi.1.level ∧ 3 ≤ xi.1.count then
            ((s.config.bindings.filterMap id).filter fun b => b.input == xi.2 && b.edge.answers (kind xi.2)).map
              fun b => (b, capture xi.2)
          else []
      let act := fun (t : State) => actions.foldl (fun t a => t.takeAction a.1.action a.1.template a.2) t
      ((between = false ∨ s.time.running = false ∨ s.time.phase + 1 < s.config.stepLength) →
        exec (.triggerSample levels between) s = .next (act sampled)) ∧
      (between = true → s.time.running = true → s.config.stepLength ≤ s.time.phase + 1 →
        exec (.triggerSample levels between) s = .next (act sampled.clockMoments.passTick.settle)))

/-- Lost and ignored actions (R90, R93): an action of a capture taken UNSET, or in CLASH, a RELEASE on a slot that is
not LIVE, and an action with the list full and no entry of its slot to supersede, change nothing and are counted
*trigger lost*. -/
def Obligations.LostActions : Prop :=
  ∀ (s : State) (action : TriggerAction) (t : Nat) (capture : Capture) (tpl : Template),
    s.config.template t = some tpl →
    (capture.isSet = false ∨ s.controller.state = .clash ∨
      (action = .release ∧ (s.originSlot t).state ≠ .live) ∨
      (8 ≤ s.publications.length ∧ ∀ e ∈ s.publications, e.slot ≠ t)) →
    s.takeAction action t capture = { s with counters := s.counters.bump .triggerLost }

/-- A START taken (R89, R91, R92, R97, R99, R102, R100, R101): the revision counter advances by one mod 16, the slot is
LIVE with the steps of the capture, the lead and the duration, the cue is admitted locally whatever the outcome, with
its counts and its late and refusal flags, and the list holds its new entry and no other of the slot. What may be
placed then is placed, and where an entry has been superseded the replay feed runs (log 14): in RING and ISOLATED, with
room in the send queue and no other entry waiting, the CUE is queued at once and counted *published*; with no room, or
elsewhere, its entry waits. The target of the new message is a free value (log 6). -/
def Obligations.StartsArePublished : Prop :=
  ∀ (s : State) (action : TriggerAction) (t : Nat) (capture : Capture) (tpl : Template),
    s.config.template t = some tpl → t < s.origins.length → capture.isSet = true →
    s.controller.state ≠ .clash → (s.publications.length < 8 ∨ ∃ e ∈ s.publications, e.slot = t) →
    (action = .start ∨ (action = .toggle ∧ (s.originSlot t).state ≠ .live)) →
    let o := s.originSlot t
    let start := capture.step + tpl.lead.setWidth 32
    let stop := tpl.duration.map fun d => start + d.setWidth 32
    let cue : Cue :=
      { origin := s.ownId, number := tpl.number, revision := o.revision + 1, priority := tpl.priority,
        first := tpl.first, last := tpl.last, blend := tpl.blend, function := tpl.function, l0 := tpl.l0,
        l1 := tpl.l1, d := tpl.d, start := start, stop := stop, orphan := tpl.orphan }
    let taken := s.takeCue cue true
    let slot : OriginSlot :=
      { o with
        state := .live, revision := o.revision + 1, start := some start, stop := stop, release := none,
        replay := false, outcome := if taken.1 = .refused then .localRefused else .none, counts := none }
    let entry : Publication :=
      { sequence := s.ring.nextSequence, kind := .cue, slot := t, replay := false,
        localRefusal := decide (taken.1 = .refused), attempt := 1, onRing := false, sent := none,
        target := Config.ownTarget s.freeCount, payload := cue.payload }
    let listed : State :=
      { taken.2 with
        origins := s.origins.set t slot
        publications := (s.publications.filter fun e => e.slot != t) ++ [entry]
        ring := { s.ring with nextSequence := s.ring.nextSequence + 1 }
        freeCount := s.freeCount + 1 }
    let after := s.takeAction action t capture
    after.table = taken.2.table ∧ after.responder = taken.2.responder ∧
      (∀ k, k ≠ .published → k ≠ .replaysSent → after.counters.get k = taken.2.counters.get k) ∧
      after.originSlot t = slot ∧
      after =
        (if ∃ e ∈ s.publications, e.slot = t then listed.placePublications.feedReplays
         else listed.placePublications) ∧
      (∃ onRing, { entry with onRing := onRing } ∈ after.publications ∧
        (∀ e ∈ after.publications, e.slot = t → e = { entry with onRing := onRing }) ∧
        (s.controller.state.publishes = false ∨ 8 ≤ s.ring.sendQueue.length → onRing = false)) ∧
      (s.controller.state.publishes = false ∨ 8 ≤ s.ring.sendQueue.length →
        after.ring.sendQueue = s.ring.sendQueue) ∧
      (s.controller.state.publishes = true → s.ring.sendQueue.length < 8 →
        (∀ e ∈ s.publications, e.onRing = true ∧ e.slot ≠ t) →
        after =
          { listed with
            publications := s.publications ++ [{ entry with onRing := true }]
            ring :=
              { listed.ring with
                sendQueue := s.ring.sendQueue ++
                  [{ kind := .cue, sequence := s.ring.nextSequence, target := Config.ownTarget s.freeCount,
                     payload := cue.payload }] }
            counters := taken.2.counters.bump .published }) ∧
      after.time = s.time ∧ after.roster = s.roster ∧ after.controller = s.controller ∧
      after.trigger = s.trigger ∧ after.pulse = s.pulse ∧ after.composer = s.composer

/-- A RELEASE taken (R90, R91, R92, R98, R99, R102, R100, R101): the slot is RELEASING with the release step of the
capture and the lead, and the template's fade; the revision counter stays; the release is admitted locally, with its
counts and its refusal flag, and the list holds its entry and no other of the slot. What may be placed then is placed,
and where an entry has been superseded the replay feed runs (log 14): in RING and ISOLATED, with room in the send queue
and no other entry waiting, the RELEASE is queued at once and counted *published*; with no room, or elsewhere, its
entry waits. The target of the new message is a free value (log 6). -/
def Obligations.ReleasesArePublished : Prop :=
  ∀ (s : State) (action : TriggerAction) (t : Nat) (capture : Capture) (tpl : Template),
    s.config.template t = some tpl → t < s.origins.length → capture.isSet = true →
    s.controller.state ≠ .clash → (s.publications.length < 8 ∨ ∃ e ∈ s.publications, e.slot = t) →
    (action = .release ∨ action = .toggle) → (s.originSlot t).state = .live →
    let o := s.originSlot t
    let r : FadeOut := { step := capture.step + tpl.lead.setWidth 32, fade := tpl.fade }
    let taken := s.takeRelease s.ownId tpl.number o.revision r true
    let slot : OriginSlot :=
      { o with
        state := .releasing, release := some r, replay := false,
        outcome := if taken.1 = .refused then .localRefused else .none, counts := none }
    let entry : Publication :=
      { sequence := s.ring.nextSequence, kind := .release, slot := t, replay := false,
        localRefusal := decide (taken.1 = .refused), attempt := 1, onRing := false, sent := none,
        target := Config.ownTarget s.freeCount, payload := releasePayload tpl.number o.revision r }
    let listed : State :=
      { taken.2 with
        origins := s.origins.set t slot
        publications := (s.publications.filter fun e => e.slot != t) ++ [entry]
        ring := { s.ring with nextSequence := s.ring.nextSequence + 1 }
        freeCount := s.freeCount + 1 }
    let after := s.takeAction action t capture
    after.table = taken.2.table ∧ after.responder = taken.2.responder ∧
      (∀ k, k ≠ .published → k ≠ .replaysSent → after.counters.get k = taken.2.counters.get k) ∧
      after.originSlot t = slot ∧
      after =
        (if ∃ e ∈ s.publications, e.slot = t then listed.placePublications.feedReplays
         else listed.placePublications) ∧
      (∃ onRing, { entry with onRing := onRing } ∈ after.publications ∧
        (∀ e ∈ after.publications, e.slot = t → e = { entry with onRing := onRing }) ∧
        (s.controller.state.publishes = false ∨ 8 ≤ s.ring.sendQueue.length → onRing = false)) ∧
      (s.controller.state.publishes = false ∨ 8 ≤ s.ring.sendQueue.length →
        after.ring.sendQueue = s.ring.sendQueue) ∧
      (s.controller.state.publishes = true → s.ring.sendQueue.length < 8 →
        (∀ e ∈ s.publications, e.onRing = true ∧ e.slot ≠ t) →
        after =
          { listed with
            publications := s.publications ++ [{ entry with onRing := true }]
            ring :=
              { listed.ring with
                sendQueue := s.ring.sendQueue ++
                  [{ kind := .release, sequence := s.ring.nextSequence, target := Config.ownTarget s.freeCount,
                     payload := releasePayload tpl.number o.revision r }] }
            counters := taken.2.counters.bump .published }) ∧
      after.time = s.time ∧ after.roster = s.roster ∧ after.controller = s.controller ∧
      after.trigger = s.trigger ∧ after.pulse = s.pulse ∧ after.composer = s.composer

/-- The replay feed at one slot and the slot's end (R108, R109): an IDLE slot loses its mark, a LIVE or RELEASING one
with room gets a replay entry under its current revision in place of any other of the slot, and without room keeps its
mark; the feed takes the slots 0 to 15 in template order and places the new entries (R101); at a boundary a LIVE slot
ends with its end step, and a RELEASING one with its end step or its fade. The target of the new message is a free
value (log 6). -/
def Obligations.ReplayAndSlotEnd : Prop :=
  (∀ (s : State) (t : Nat) (tpl : Template), s.config.template t = some tpl → t < s.origins.length →
    let o := s.originSlot t
    (o.replay = false → s.feedSlot t = s) ∧
    (o.replay = true →
      (o.state = .idle → s.feedSlot t = { s with origins := s.origins.set t { o with replay := false } }) ∧
      (o.state ≠ .idle → 8 ≤ s.publications.length → (∀ e ∈ s.publications, e.slot ≠ t) → s.feedSlot t = s) ∧
      (o.state ≠ .idle → (s.publications.length < 8 ∨ ∃ e ∈ s.publications, e.slot = t) →
        s.feedSlot t =
          { s with
            freeCount := s.freeCount + 1
            origins := s.origins.set t { o with replay := false }
            ring := { s.ring with nextSequence := s.ring.nextSequence + 1 }
            publications :=
              (s.publications.filter fun e => e.slot != t) ++
                [{ sequence := s.ring.nextSequence, kind := if o.state = .live then .cue else .release, slot := t,
                   replay := true, localRefusal := false, attempt := 1, onRing := false, sent := none,
                   target := Config.ownTarget s.freeCount,
                   payload :=
                    if o.state = .live then
                      ({ origin := s.ownId, number := tpl.number, revision := o.revision, priority := tpl.priority,
                         first := tpl.first, last := tpl.last, blend := tpl.blend, function := tpl.function,
                         l0 := tpl.l0, l1 := tpl.l1, d := tpl.d, start := o.start.getD 0, stop := o.stop,
                         orphan := tpl.orphan } : Cue).payload
                    else releasePayload tpl.number o.revision (o.release.getD { step := 0, fade := 0 }) }] }))) ∧
  (∀ s : State,
    s.feedReplays =
      ([0, 1, 2, 3, 4, 5, 6, 7, 8, 9, 10, 11, 12, 13, 14, 15].foldl (fun u t => u.feedSlot t) s).placePublications) ∧
  (∀ (o : OriginSlot) (n : StepNo),
    let ended := (o.stop.map (stepAtOrAfter n)).getD false
    let faded := (o.release.map fun r => stepAtOrAfter n (r.step + r.fade.setWidth 32)).getD false
    o.atBoundary n =
      if (o.state = .live ∧ ended = true) ∨ (o.state = .releasing ∧ (ended = true ∨ faded = true)) then
        { o with state := .idle, replay := false }
      else o)

/-! ### The roster and the cue table -/

/-- The roster takes a message (R139, R140, R141, R142, R144): never the node's own; a new entry is PRESENT with the
current step, a held one is refreshed, a JOIN makes the entry anew whatever its length (log 12); a BEACON or JOIN
of allowed length announces, value by value. The entries of other ids stay. A sender is compatible unless its entry has
another announced step length than the node's own (R143). -/
def Obligations.RosterTakesMessages : Prop :=
  ∀ (s : State) (m : Message),
    (∀ (p : Peer) (own : Nat), p.compatible own = false ↔ ∃ l, p.stepLength = some l ∧ l.toNat ≠ own) ∧
    (∀ o, s.senderCompatible o = false ↔
      ∃ p l, s.roster.find? (fun p => p.id == o) = some p ∧ p.stepLength = some l ∧
        l.toNat ≠ s.config.stepLength) ∧
    (m.origin = s.ownId → s.rosterTake m = s) ∧
    (m.origin ≠ s.ownId →
      let fresh : Peer :=
        { id := m.origin, hop := m.hop, range := none, stepLength := none, interval := none,
          firstHeard := s.time.step, lastHeard := s.time.step, silence := 0, silent := false }
      let entry : Peer :=
        match s.roster.find? (fun p => p.id == m.origin) with
        | none => fresh
        | some p =>
          if m.kind = 2#4 then fresh
          else { p with hop := m.hop, lastHeard := s.time.step, silence := 0, silent := false }
      let base := word16At m.payload 0
      let count := byteAt m.payload 2
      let interval := byteAt m.payload 5
      let announced : Peer :=
        if (m.kind = 1#4 ∧ m.payload.length = 16) ∨ (m.kind = 2#4 ∧ m.payload.length = 6) then
          { entry with
            range :=
              if 1 ≤ count.toNat ∧ count.toNat ≤ 64 ∧ base.toNat + count.toNat ≤ 16384 then some (base, count)
              else entry.range
            stepLength := some (word16At m.payload 3)
            interval := if 4 ≤ interval.toNat ∧ interval.toNat ≤ 64 then some interval else entry.interval }
        else entry
      s.rosterTake m = { s with roster := (s.rosterTake m).roster } ∧
        (s.rosterTake m).roster.Perm (announced :: s.roster.filter fun p => p.id != m.origin) ∧
        (s.rosterTake m).roster.find? (fun p => p.id == m.origin) = some announced)

/-- The slot for a key not held (R8, R10): the lowest-numbered free slot; with none free, a tombstone that no other
is older than, and of equally old ones the lowest-numbered; with neither, none. The tombstones' steps lie behind the
current step, as a table's steps do. The order of steps (R6): a is at or after b when (a − b) mod 2^32 is below 2^31,
after b when it is also not equal to b, and before b when b is after a; so two steps 2^31 apart are neither, by this
formula, against the sentence on a step more than 2^31 − 1 behind (log 24). -/
def Obligations.SlotChoice : Prop :=
  (∀ a b : StepNo,
    (stepAtOrAfter a b = true ↔ (a - b).toNat < 2 ^ 31) ∧
      (stepAfter a b = true ↔ (a - b).toNat < 2 ^ 31 ∧ a ≠ b) ∧
      (stepBefore a b = true ↔ (b - a).toNat < 2 ^ 31 ∧ a ≠ b)) ∧
  ∀ (table : List Slot) (now : StepNo),
    (∀ t, Slot.tombstone t ∈ table → stepAtOrAfter now t.step = true) →
    (∀ i, obtainSlot table = some i → i < table.length) ∧
    (∀ i, table[i]? = some .free → (∀ j < i, table[j]? ≠ some .free) → obtainSlot table = some i) ∧
    ((∀ slot ∈ table, slot ≠ .free) →
      (∀ i t, table[i]? = some (.tombstone t) →
        (∀ j u, table[j]? = some (.tombstone u) → stepAtOrAfter u.step t.step = true ∧ (u.step = t.step → i ≤ j)) →
        obtainSlot table = some i) ∧
      ((∀ slot ∈ table, ∃ e, slot = .live e) → obtainSlot table = none))

/-- The content of a CUE: malformed and counted (R3), or judged (R13, R14, R15, R16, R17), case by case: from an
incompatible sender; not held and outside; expired; not held, with a slot or refused; held with the same, a stale or a
newer revision than its LIVE entry or tombstone has, inside or outside the owned range. A key is held by a slot whose
entry has that origin and that cue number, both (R4). -/
def Obligations.CuesAreJudged : Prop :=
  (∀ (table : List Slot) (o : NodeId) (n : Byte),
    let key := fun (slot : Slot) =>
      match slot with
      | .free => none
      | .live e => some (e.cue.origin, e.cue.number)
      | .tombstone t => some (t.origin, t.number)
    (∀ i, findKey table o n = some i → ∃ slot, table[i]? = some slot ∧ key slot = some (o, n)) ∧
      (findKey table o n = none ↔ ∀ slot ∈ table, key slot ≠ some (o, n))) ∧
  (∀ slot : Slot,
    slot.revision =
      match slot with
      | .free => 0
      | .live e => e.cue.revision
      | .tombstone t => t.revision) ∧
  (∀ (s : State) (m : Message),
    (cueOfPayload m.origin m.payload = none →
      cueContent m s = (.malformed, { s with counters := s.counters.bump .malformed })) ∧
    (∀ c, cueOfPayload m.origin m.payload = some c →
      let taken := s.takeCue c (s.senderCompatible m.origin)
      cueContent m s = (if taken.1 = .refused then .refused else .taken, taken.2))) ∧
  ∀ (s : State) (c : Cue) (compatible : Bool),
    let expired := s.time.isSet && (c.stop.map fun e => !stepAfter e s.time.step).getD false
    let late := s.time.isSet && stepAtOrAfter s.time.step c.start
    let owned := decide (c.first.toNat < s.config.channelBase + s.config.channelCount ∧
      s.config.channelBase ≤ c.last.toNat ∧ 0 < s.config.channelCount)
    let counted := fun (k : Counter) => ({ s with counters := s.counters.bump k } : State)
    let stored := fun (i : Nat) (k : Counter) =>
      ({ s with
          table := s.table.set i
            (.live { cue := c, release := none, phase := .pending, late := late, arrival := s.time.step })
          counters := if late then (s.counters.bump k).bump .late else s.counters.bump k
          responder := if late then { s.responder with lateSeen := true } else s.responder } : State)
    (compatible = false → s.takeCue c compatible = (.incompatible, counted .incompatible)) ∧
    (compatible = true →
      (findKey s.table c.origin c.number = none →
        (owned = false → s.takeCue c compatible = (.outside, counted .outside)) ∧
        (owned = true → expired = true → s.takeCue c compatible = (.expired, counted .expired)) ∧
        (owned = true → expired = false →
          (∀ i, obtainSlot s.table = some i → s.takeCue c compatible = (.admitted, stored i .admitted)) ∧
          (obtainSlot s.table = none →
            s.takeCue c compatible =
              (.refused,
                { s with counters := s.counters.bump .refused,
                         responder := { s.responder with refusalSeen := true } })))) ∧
      (∀ i, findKey s.table c.origin c.number = some i →
        (expired = true → s.takeCue c compatible = (.expired, counted .expired)) ∧
        (expired = false →
          let d := (c.revision - (s.table.getD i .free).revision).toNat
          (d = 0 → s.takeCue c compatible = (.duplicate, counted .duplicate)) ∧
          (8 ≤ d → s.takeCue c compatible = (.stale, counted .stale)) ∧
          (1 ≤ d → d ≤ 7 → owned = true → s.takeCue c compatible = (.replaced, stored i .replaced)) ∧
          (1 ≤ d → d ≤ 7 → owned = false →
            s.takeCue c compatible =
              (.outside,
                { s with
                  table := s.table.set i
                    (.tombstone { origin := c.origin, number := c.number, revision := c.revision,
                                  step := s.time.step })
                  counters := s.counters.bump .outside })))))

/-- A RELEASE (R19, and for a LIVE entry the text that opens section 1.5, log 1), read from its payload (R189), case by
case: from an incompatible sender; not held, with a slot or refused; held LIVE or as a tombstone, with the same, a stale
or a newer revision. -/
def Obligations.ReleasesAreSettled : Prop :=
  (∀ (s : State) (m : Message),
    let taken := s.takeRelease m.origin (byteAt m.payload 0) ((byteAt m.payload 1).extractLsb' 0 4)
      { step := word32At m.payload 2, fade := word16At m.payload 6 } (s.senderCompatible m.origin)
    releaseContent m s = (if taken.1 = .refused then .refused else .taken, taken.2)) ∧
  ∀ (s : State) (o : NodeId) (n : Byte) (r : Revision) (f : FadeOut) (compatible : Bool),
    let counted := fun (k : Counter) => ({ s with counters := s.counters.bump k } : State)
    let put := fun (i : Nat) (slot : Slot) (k : Counter) =>
      ({ s with table := s.table.set i slot, counters := s.counters.bump k } : State)
    let grave : Slot := .tombstone { origin := o, number := n, revision := r, step := s.time.step }
    let result := s.takeRelease o n r f compatible
    (compatible = false → result = (.incompatible, counted .incompatible)) ∧
    (compatible = true →
      (findKey s.table o n = none →
        (∀ i, obtainSlot s.table = some i → result = (.admitted, put i grave .admitted)) ∧
        (obtainSlot s.table = none →
          result =
            (.refused,
              { s with counters := s.counters.bump .refused,
                       responder := { s.responder with refusalSeen := true } }))) ∧
      (∀ i e, findKey s.table o n = some i → s.table[i]? = some (.live e) →
        let d := (r - e.cue.revision).toNat
        (8 ≤ d → result = (.stale, counted .stale)) ∧
        (d = 0 → e.release = some f → result = (.duplicate, counted .duplicate)) ∧
        (d ≤ 7 → (1 ≤ d ∨ e.release ≠ some f) →
          result =
            (.replaced,
              put i (.live { e with release := some f, cue := { e.cue with revision := r } }) .replaced))) ∧
      (∀ i t, findKey s.table o n = some i → s.table[i]? = some (.tombstone t) →
        let d := (r - t.revision).toNat
        (8 ≤ d → result = (.stale, counted .stale)) ∧ (d = 0 → result = (.duplicate, counted .duplicate)) ∧
        (1 ≤ d → d ≤ 7 → result = (.replaced, put i grave .replaced))))

/-- CLEAR, the purge of a JOIN and the orphan drop (R20, R21, R22): a CLEAR at or before the current step entombs the
LIVE entries of its origin, and one after it, one exactly 2^31 from it (log 24), or one taken UNSET, brings their end
step forward to it; a purge frees every entry of the origin; an orphan drop entombs its LIVE entries of policy DROP.
Other entries stay, and only a CLEAR of an incompatible sender is counted. The content of a CLEAR names the origin
and the step (R189); that of a JOIN of another origin is the purge, and a replay mark on each LIVE or RELEASING slot
whose template range meets the announced range (R106). -/
def Obligations.ClearPurgeAndDrop : Prop :=
  (∀ (s : State) (m : Message),
    let base := (word16At m.payload 0).toNat
    let count := (byteAt m.payload 2).toNat
    clearContent m s =
      (.taken,
        s.takeClear ((byteAt m.payload 0).extractLsb' 0 6) (word32At m.payload 1) (s.senderCompatible m.origin)) ∧
    (m.origin = s.ownId → joinContent m s = (.taken, s)) ∧
    (m.origin ≠ s.ownId →
      joinContent m s =
        (.taken,
          { s.purgeOrigin m.origin with
            origins := s.origins.mapIdx fun i o =>
              if o.state ≠ .idle ∧
                  ((s.config.template i).map fun tpl =>
                    decide (0 < count ∧ tpl.first.toNat < base + count ∧ base ≤ tpl.last.toNat)).getD false = true then
                { o with replay := true }
              else o }))) ∧
  ∀ (s : State) (o : NodeId) (clearStep : StepNo),
    let grave := fun (e : LiveEntry) =>
      Slot.tombstone { origin := e.cue.origin, number := e.cue.number, revision := e.cue.revision,
                       step := s.time.step }
    let ends := fun (e : LiveEntry) =>
      Slot.live { e with cue := { e.cue with stop := some clearStep } }
    s.takeClear o clearStep false = { s with counters := s.counters.bump .incompatible } ∧
    s.takeClear o clearStep true =
      { s with
        table := s.table.map fun slot =>
          match slot with
          | .live e =>
            if e.cue.origin = o then
              if s.time.isSet = true ∧ stepAtOrAfter s.time.step clearStep = true then grave e
              else if (e.cue.stop.map fun x => stepAfter x clearStep).getD true then ends e
              else .live e
            else .live e
          | other => other } ∧
    s.purgeOrigin o =
      { s with
        table := s.table.map fun slot =>
          match slot with
          | .live e => if e.cue.origin = o then .free else .live e
          | .tombstone t => if t.origin = o then .free else .tombstone t
          | .free => .free } ∧
    s.dropOrphans o =
      { s with
        table := s.table.map fun slot =>
          match slot with
          | .live e => if e.cue.origin = o ∧ e.cue.orphan = .drop then grave e else .live e
          | other => other }

/-! ### Requests -/

/-- The judgement of a REQUEST (R124, R178): a request for another node is not handed on; at target 63 the two acting
selectors are acted on and the others ignored; at the own id an unknown selector, an index outside its range, and a
READ CHANNEL while UNSET are answered so, and the rest is acted on. The result codes are OK 0, BAD-SELECTOR 1,
BAD-INDEX 2 and NOT-READY 3 (R189). What it comes to (R179, R183, R184, R168): an ignored one is counted *answer lost*;
an ANSWER joins the send queue with the next sequence where own messages are sent and there is room, and is lost and
counted otherwise, in CLASH always (log 22); CLEAR COUNTERS clears every counter before its ANSWER; RESTART marks its
ANSWER's sequence, or is performed at once when the ANSWER is lost, and in CLASH not at all. A restart takes every
block to its restart values (R169). A restart that comes before the end of LISTEN of the boundary just taken begins
with a listen count of 1, and with 0 otherwise. One that comes at the moment at which LISTEN has ended is performed at
once, its ANSWER lost as in LISTEN, so that the node is in LISTEN again and the queue is empty (R170); where that moment
ends is log 5. -/
def Obligations.RequestsAreJudgedAndAnswered : Prop :=
  (∀ (s : State) (m : Message),
      let code := (byteAt m.payload 0).toNat
      let i := (byteAt m.payload 1).toNat
      let known := 1 ≤ code ∧ code ≤ 7
      let inRange :=
        (code = 1 → i ≤ 24) ∧ (code = 2 → i ≤ 3) ∧ (code = 3 → i ≤ 47 ∨ (64 ≤ i ∧ i ≤ 111)) ∧
          (code = 4 → i ≤ 61) ∧ (code = 5 → i ≤ 63)
      (m.target = 63#6 →
        ((code = 6 ∨ code = 7) → s.judgeRequest m = .acted) ∧
        (code ≠ 6 → code ≠ 7 → s.judgeRequest m = .ignored)) ∧
      (m.target ≠ 63#6 → m.target ≠ s.ownId → s.judgeRequest m = .notForUs) ∧
      (m.target ≠ 63#6 → m.target = s.ownId →
        (¬ known → s.judgeRequest m = .answered .badSelector) ∧
        (known → ¬ inRange → s.judgeRequest m = .answered .badIndex) ∧
        (code = 5 → inRange → s.time.isSet = false → s.judgeRequest m = .answered .notReady) ∧
        (known → inRange → (code ≠ 5 ∨ s.time.isSet = true) → s.judgeRequest m = .acted))) ∧
  (∀ (s : State) (m : Message),
      let code := byteAt m.payload 0
      let i := (byteAt m.payload 1).toNat
      let room := s.controller.state.sendsOwn = true ∧ s.ring.sendQueue.length < 8
      let placed := fun (s : State) (result : Byte) (data : List Byte) =>
        ({ s with
            ring :=
              { s.ring with
                nextSequence := s.ring.nextSequence + 1
                sendQueue := s.ring.sendQueue ++
                  [{ kind := .answer, sequence := s.ring.nextSequence, target := m.origin,
                     payload := [m.sequence, code, result] ++ data }] } } : State)
      let lost := fun (s : State) => ({ s with counters := s.counters.bump .answerLost } : State)
      let cleared : State := { s with counters := .zero }
      (s.judgeRequest m = .notForUs → ∀ act, requestContent act m s = (.taken, s)) ∧
      (s.judgeRequest m = .ignored → ∀ act, requestContent act m s = (.taken, lost s)) ∧
      (∀ r, s.judgeRequest m = .answered r → ∀ act,
        (room → requestContent act m s = (.taken, placed s r.code [])) ∧
        (¬ room → requestContent act m s = (.taken, lost s))) ∧
      (ResultCode.ok.code = 0#8 ∧ ResultCode.badSelector.code = 1#8 ∧ ResultCode.badIndex.code = 2#8 ∧
        ResultCode.notReady.code = 3#8) ∧
      (s.judgeRequest m = .acted →
        (∀ data, (room → requestContent (answerRead data) m s = (.taken, placed s 0 (data s i))) ∧
          (¬ room → requestContent (answerRead data) m s = (.taken, lost s))) ∧
        (room → requestContent answerClear m s = (.taken, placed cleared 0 [])) ∧
        (¬ room → requestContent answerClear m s = (.taken, lost cleared)) ∧
        (room → s.due.listenEnded = false →
          requestContent answerRestart m s =
            (.taken,
              { placed s 0 [] with
                controller :=
                  { s.controller with
                    restartPending := some (s.controller.restartPending.getD s.ring.nextSequence) } })) ∧
        ((¬ room ∨ s.due.listenEnded = true) → s.controller.state = .clash →
          requestContent answerRestart m s = (.taken, lost s)) ∧
        ((¬ room ∨ s.due.listenEnded = true) → s.controller.state.strips = true →
          requestContent answerRestart m s = (.taken, (lost s).doRestart)))) ∧
  (∀ s : State,
      s.doRestart =
        { s with
          time := { step := 0, phase := 0, isSet := false, trimUsed := 0, running := true }
          table := List.replicate 48 .free
          composer := .reset
          pulse :=
            { s.pulse with running := true, pending := List.replicate 64 0, fresh := false, live := false }
          origins := List.replicate 16 .reset
          publications := []
          ring := { s.ring with sendQueue := [], recent := [], guardCount := 0 }
          roster := []
          controller :=
            { Controller.reset with
              state := .listen
              grace := s.config.circuitLimit
              listenCount := if s.due.listenEnd = true then 1 else 0 }
          responder := .reset
          counters := if s.composer.pass.isSome then s.counters.bump .passAborted else s.counters
          due := .none })

/-- The data of every READ, byte by byte (R180, R181, R182, R190): 17 bytes for the status summary, 19 for an origin
slot, 7 for a trigger input, two for each counter of a group in the order of the list of counters, 1, 14 or 4 and 1, 23
or 8 for the two parts of a free, LIVE or tombstone slot, 20 or 2 for a roster position held or not, 6 for a channel.
Spare bits are 0, and so is what is absent. The counts of two bits are given as their codes. The node states have the
codes 0 to 6 (R189), and the ring-size estimate is one more than the largest hop distance among the PRESENT entries,
and 1 with none (R149). An increment of a counter adds one to that counter alone, and one at 65535 stays (R185). -/
def Obligations.AnswerDataBytes : Prop :=
  (∀ table : List Slot,
    liveCount table =
        table.countP (fun slot =>
          match slot with
          | .live _ => true
          | _ => false) ∧
      tombstoneCount table =
        table.countP (fun slot =>
          match slot with
          | .tombstone _ => true
          | _ => false)) ∧
  (∀ (s : State) (t : Nat), s.originSlot t = (s.origins[t]?).getD .reset) ∧
  ∀ s : State,
    let bit := fun (b : Bool) (place : Byte) => if b then place else 0#8
    let word := fun (n : Nat) => be16 (BitVec.ofNat 16 n)
    let short := fun (n : Nat) => BitVec.ofNat 8 n
    let slotState := fun (i : Nat) =>
      match (s.originSlot i).state with
      | .idle => 0
      | .live => 1
      | .releasing => 2
    let four := fun (i : Nat) =>
      short (64 * slotState i + 16 * slotState (i + 1) + 4 * slotState (i + 2) + slotState (i + 3))
    ([NodeState.loading, .unconfigured, .listen, .admitting, .ring, .isolated, .clash].map NodeState.code =
      [0#8, 1#8, 2#8, 3#8, 4#8, 5#8, 6#8]) ∧
    ((∀ p ∈ s.roster, p.silent = false → p.hop.toNat + 1 ≤ s.ringSize) ∧
      (s.ringSize = 1 ∨ ∃ p ∈ s.roster, p.silent = false ∧ s.ringSize = p.hop.toNat + 1) ∧ 1 ≤ s.ringSize) ∧
    (s.controller.missCount < 4 → s.controller.strayAges.length < 4 → s.controller.joinAttempt < 4 →
      ∃ levels : Byte,
        (∀ i < 8, levels.getLsbD i = (s.trigger.inputs.map TriggerInput.level).getD i false) ∧
        s.readStatusData 0 =
          [s.controller.state.code,
           bit s.time.isSet 0x80#8 ||| bit s.pulse.live 0x40#8 ||| bit s.controller.restartPending.isSome 0x20#8] ++
          be32 s.time.step ++
          [short s.ringSize, short s.roster.length, short (liveCount s.table), short (tombstoneCount s.table),
           short s.publications.length, levels,
           short (64 * s.controller.missCount + 16 * s.controller.strayAges.length + s.controller.joinAttempt),
           four 0, four 4, four 8, four 12] ∧
        (s.readStatusData 0).length = 17) ∧
    (∀ t < 16,
      let o := s.originSlot t
      let entry := s.publications.find? fun e => decide (e.slot = t)
      let seen := (o.counts.map Prod.fst).getD 0
      let refused := (o.counts.map Prod.snd).getD 0
      let outcome :=
        match o.outcome with
        | .none => 0
        | .delivered => 1
        | .partially => 2
        | .failed => 3
        | .localRefused => 4
      ((∀ e, entry = some e → e.attempt < 4) →
        s.readStatusData (t + 1) =
          [short (64 * slotState t + o.revision.toNat),
           bit o.stop.isSome 0x80#8 ||| bit o.release.isSome 0x40#8 ||| bit o.replay 0x20#8 |||
             bit o.counts.isSome 0x10#8 ||| bit entry.isSome 0x08#8 |||
             bit (entry.any fun e => decide (e.kind = .release)) 0x04#8 ||| bit (entry.any Publication.onRing) 0x02#8,
           short (16 * outcome + (entry.map Publication.attempt).getD 0)] ++
          be32 (o.start.getD 0) ++ be32 (o.stop.getD 0) ++ be32 ((o.release.map FadeOut.step).getD 0) ++
          be16 ((o.release.map FadeOut.fade).getD 0) ++ [short seen.toNat, short refused.toNat]) ∧
      (s.readStatusData (t + 1)).length = 19) ∧
    (∀ i x, i < 8 → s.trigger.inputs[i]? = some x → x.count < 4 →
      (x.capture = none →
        s.readStatusData (i + 17) = [bit x.level 0x80#8 ||| short (16 * x.count)] ++ be32 0 ++ be16 0) ∧
      (∀ c, x.capture = some c →
        s.readStatusData (i + 17) =
          [bit x.level 0x80#8 ||| short (16 * x.count) ||| 0x08#8 ||| bit (decide (c.edge = .fall)) 0x04#8 |||
            bit c.isSet 0x02#8] ++ be32 c.step ++ word c.phase) ∧
      (s.readStatusData (i + 17)).length = 7) ∧
    (let c := s.counters
     s.readCountersData 0 =
        be16 c.crcError ++ be16 c.malformed ++ be16 c.hopLimit ++ be16 c.forwardOverflow ++ be16 c.unknownKind ++
          be16 c.strayEcho ++ be16 c.answerLost ++ be16 c.beaconSkipped ∧
      s.readCountersData 1 =
        be16 c.admitted ++ be16 c.replaced ++ be16 c.duplicate ++ be16 c.stale ++ be16 c.expired ++
          be16 c.refused ++ be16 c.late ++ be16 c.outside ++ be16 c.incompatible ∧
      s.readCountersData 2 =
        be16 c.trim ++ be16 c.trimLimited ++ be16 c.jump ++ be16 c.passAborted ++ be16 c.setSuperseded ++
          be16 c.failsafeSteps ∧
      s.readCountersData 3 =
        be16 c.triggerLost ++ be16 c.published ++ be16 c.delivered ++ be16 c.partially ++ be16 c.failed ++
          be16 c.replaysSent ++ be16 c.isolations ++ be16 c.joinAttempts) ∧
    (let c := s.counters
     [Counter.crcError, .malformed, .hopLimit, .forwardOverflow, .unknownKind, .strayEcho, .answerLost, .beaconSkipped,
          .admitted, .replaced, .duplicate, .stale, .expired, .refused, .late, .outside, .incompatible, .trim,
          .trimLimited, .jump, .passAborted, .setSuperseded, .failsafeSteps, .triggerLost, .published, .delivered,
          .partially, .failed, .replaysSent, .isolations, .joinAttempts].map c.get =
        [c.crcError, c.malformed, c.hopLimit, c.forwardOverflow, c.unknownKind, c.strayEcho, c.answerLost,
          c.beaconSkipped, c.admitted, c.replaced, c.duplicate, c.stale, c.expired, c.refused, c.late, c.outside,
          c.incompatible, c.trim, c.trimLimited, c.jump, c.passAborted, c.setSuperseded, c.failsafeSteps,
          c.triggerLost, c.published, c.delivered, c.partially, c.failed, c.replaysSent, c.isolations,
          c.joinAttempts]) ∧
    (∀ x : Count, (bumpCount x).toNat = min 65535 (x.toNat + 1)) ∧
    (∀ k j : Counter,
      ((s.counters.bump k).get j).toNat =
        if j = k then min 65535 ((s.counters.get j).toNat + 1) else (s.counters.get j).toNat) ∧
    ((s.readCountersData 0).length = 16 ∧ (s.readCountersData 1).length = 18 ∧
      (s.readCountersData 2).length = 12 ∧ (s.readCountersData 3).length = 16) ∧
    (∀ i slot, i < 48 → s.table[i]? = some slot →
      (slot = .free → s.readCueData i = [0] ∧ s.readCueData (i + 64) = [0]) ∧
      (∀ x, slot = .tombstone x →
        let start := [2#8, x.origin.setWidth 8, x.number, short (16 * x.revision.toNat)]
        s.readCueData i = start ∧ s.readCueData (i + 64) = start ++ be32 x.step ∧
          (s.readCueData i).length = 4 ∧ (s.readCueData (i + 64)).length = 8) ∧
      (∀ e, slot = .live e →
        let q := e.cue
        let phase :=
          match e.phase with
          | .pending => 0
          | .active => 1
          | .fading => 2
        s.readCueData i =
          [1#8, q.origin.setWidth 8, q.number, short (16 * q.revision.toNat + q.priority.toNat)] ++
            (q.payload.drop 2).take 9 ++ [bit (decide (q.orphan = .drop)) 0x80#8] ∧
        s.readCueData (i + 64) =
          [1#8, q.origin.setWidth 8, q.number,
           short (16 * q.revision.toNat + 4 * phase) ||| bit e.late 0x01#8,
           bit q.stop.isSome 0x80#8 ||| bit e.release.isSome 0x40#8] ++
            be32 q.start ++ be32 (q.stop.getD 0) ++ be32 ((e.release.map FadeOut.step).getD 0) ++
            be16 ((e.release.map FadeOut.fade).getD 0) ++ be32 e.arrival ∧
        (s.readCueData i).length = 14 ∧ (s.readCueData (i + 64)).length = 23)) ∧
    (∀ (x : Nat) (p : Peer), s.roster[x]? = some p →
      s.readPeerData x =
        [1#8, p.id.setWidth 8, p.hop.setWidth 8,
         bit p.silent 0x80#8 ||| bit (p.compatible s.config.stepLength) 0x40#8 ||| bit p.range.isSome 0x20#8 |||
           bit p.stepLength.isSome 0x10#8 ||| bit p.interval.isSome 0x08#8] ++
          be32 p.firstHeard ++ be32 p.lastHeard ++ word p.silence ++ be16 ((p.range.map Prod.fst).getD 0) ++
          [(p.range.map Prod.snd).getD 0] ++ be16 (p.stepLength.getD 0) ++ [p.interval.getD 0] ∧
      (s.readPeerData x).length = 20) ∧
    (∀ x, s.roster.length ≤ x → s.readPeerData x = [0#8, short s.roster.length]) ∧
    (∀ i < 64,
      (∀ c, i < s.config.channelCount → s.composer.record[i]? = some c →
        s.readChannelData i = word (s.config.channelBase + i) ++ word c.level ++ word c.duty) ∧
      (s.config.channelCount ≤ i → s.readChannelData i = [0xFF#8, 0xFF#8, 0#8, 0#8, 0#8, 0#8]) ∧
      (s.readChannelData i).length = 6)

/-! ### What every step keeps -/

/-- Tables keep their sizes (R7, R28, R65, R81, R96). -/
def Obligations.SizesAreKept : Prop := ∀ s t : State, s.sizesFixed → step s = .next t → t.sizesFixed

/-- The ring port keeps its bounds (R115, R127, R129, R130, R131). -/
def Obligations.RingBoundsAreKept : Prop := ∀ s t : State, s.ring.bounded → step s = .next t → t.ring.bounded

/-- The publication list keeps its bound, and one entry for a slot (R100). -/
def Obligations.PublicationBoundsAreKept : Prop :=
  ∀ s t : State, s.publicationsBounded → step s = .next t → t.publicationsBounded

/-- No key is ever held twice (R4). -/
def Obligations.KeysStayUnique : Prop := ∀ s t : State, s.keysUnique → step s = .next t → t.keysUnique

/-- The roster keeps its order, one entry for an id and never the node's own, and distances 1..62 (R138, R139, R145).
For states in which a node that is LOADING or UNCONFIGURED has its reset values (AsleepStaysAtReset). -/
def Obligations.RosterStaysOrdered : Prop :=
  ∀ s t : State, s.asleepAtReset → s.rosterOrdered → step s = .next t → t.rosterOrdered

/-- The node controller keeps its bounds (R152, R160, R163, R166): the listen count, the grace, the JOIN attempt and its
sequences, the miss count, the ages and their number. An age that has reached 8 beacon intervals stands only until the
removal that its boundary leaves due (log 5). For states in which the configuration is in range (TimeStaysSound) and a
node that is LOADING or UNCONFIGURED has its reset values (AsleepStaysAtReset). -/
def Obligations.ControllerBoundsAreKept : Prop :=
  ∀ s t : State, s.asleepAtReset → s.configInRange → s.controller.bounded → s.agesInWindow → step s = .next t →
    t.controller.bounded ∧ t.agesInWindow

/-- Every step keeps the state of reset and load: a node that is LOADING or UNCONFIGURED has every block at its values
after full reset (R154, R156). The lines and the link's repeating are no part of it (log 9). -/
def Obligations.AsleepStaysAtReset : Prop :=
  ∀ s t : State, s.asleepAtReset → step s = .next t → t.asleepAtReset

/-- The configuration stays in range and the timebase sound: the phase below L, the trims within the bound, RUNNING
from LISTEN on, and SET wherever the node sends (R46, R47, R50, R58, R155). After a full reset it rests on the values
before a load, log 8. For states in which a node that is LOADING or UNCONFIGURED has its reset values
(AsleepStaysAtReset). -/
def Obligations.TimeStaysSound : Prop :=
  ∀ s t : State, s.asleepAtReset → s.configInRange → s.timeSound → step s = .next t → t.configInRange ∧ t.timeSound
end

