-- ==== Sys2Proof/Laws/State.lean ====
section
/-! SUPPORT. One rewriting lemma for each field of the state after each replacement of a block. -/

namespace Sys2Proof.Machine

@[simp] theorem State.withTime_pending (s : State) (x : Timebase) : (s.withTime x).pending = s.pending := rfl
@[simp] theorem State.withTime_resetHeld (s : State) (x : Timebase) : (s.withTime x).resetHeld = s.resetHeld := rfl
@[simp] theorem State.withTime_loader (s : State) (x : Timebase) : (s.withTime x).loader = s.loader := rfl
@[simp] theorem State.withTime_config (s : State) (x : Timebase) : (s.withTime x).config = s.config := rfl
@[simp] theorem State.withTime_time (s : State) (x : Timebase) : (s.withTime x).time = x := rfl
@[simp] theorem State.withTime_table (s : State) (x : Timebase) : (s.withTime x).table = s.table := rfl
@[simp] theorem State.withTime_composer (s : State) (x : Timebase) : (s.withTime x).composer = s.composer := rfl
@[simp] theorem State.withTime_pulse (s : State) (x : Timebase) : (s.withTime x).pulse = s.pulse := rfl
@[simp] theorem State.withTime_trigger (s : State) (x : Timebase) : (s.withTime x).trigger = s.trigger := rfl
@[simp] theorem State.withTime_origins (s : State) (x : Timebase) : (s.withTime x).origins = s.origins := rfl
@[simp] theorem State.withTime_publications (s : State) (x : Timebase) : (s.withTime x).publications = s.publications := rfl
@[simp] theorem State.withTime_ring (s : State) (x : Timebase) : (s.withTime x).ring = s.ring := rfl
@[simp] theorem State.withTime_roster (s : State) (x : Timebase) : (s.withTime x).roster = s.roster := rfl
@[simp] theorem State.withTime_controller (s : State) (x : Timebase) : (s.withTime x).controller = s.controller := rfl
@[simp] theorem State.withTime_responder (s : State) (x : Timebase) : (s.withTime x).responder = s.responder := rfl
@[simp] theorem State.withTime_counters (s : State) (x : Timebase) : (s.withTime x).counters = s.counters := rfl
@[simp] theorem State.withTime_due (s : State) (x : Timebase) : (s.withTime x).due = s.due := rfl
@[simp] theorem State.withTime_now (s : State) (x : Timebase) : (s.withTime x).now = s.now := rfl
@[simp] theorem State.withTime_freeCount (s : State) (x : Timebase) : (s.withTime x).freeCount = s.freeCount := rfl

@[simp] theorem State.withTable_pending (s : State) (x : List Slot) : (s.withTable x).pending = s.pending := rfl
@[simp] theorem State.withTable_resetHeld (s : State) (x : List Slot) : (s.withTable x).resetHeld = s.resetHeld := rfl
@[simp] theorem State.withTable_loader (s : State) (x : List Slot) : (s.withTable x).loader = s.loader := rfl
@[simp] theorem State.withTable_config (s : State) (x : List Slot) : (s.withTable x).config = s.config := rfl
@[simp] theorem State.withTable_time (s : State) (x : List Slot) : (s.withTable x).time = s.time := rfl
@[simp] theorem State.withTable_table (s : State) (x : List Slot) : (s.withTable x).table = x := rfl
@[simp] theorem State.withTable_composer (s : State) (x : List Slot) : (s.withTable x).composer = s.composer := rfl
@[simp] theorem State.withTable_pulse (s : State) (x : List Slot) : (s.withTable x).pulse = s.pulse := rfl
@[simp] theorem State.withTable_trigger (s : State) (x : List Slot) : (s.withTable x).trigger = s.trigger := rfl
@[simp] theorem State.withTable_origins (s : State) (x : List Slot) : (s.withTable x).origins = s.origins := rfl
@[simp] theorem State.withTable_publications (s : State) (x : List Slot) : (s.withTable x).publications = s.publications := rfl
@[simp] theorem State.withTable_ring (s : State) (x : List Slot) : (s.withTable x).ring = s.ring := rfl
@[simp] theorem State.withTable_roster (s : State) (x : List Slot) : (s.withTable x).roster = s.roster := rfl
@[simp] theorem State.withTable_controller (s : State) (x : List Slot) : (s.withTable x).controller = s.controller := rfl
@[simp] theorem State.withTable_responder (s : State) (x : List Slot) : (s.withTable x).responder = s.responder := rfl
@[simp] theorem State.withTable_counters (s : State) (x : List Slot) : (s.withTable x).counters = s.counters := rfl
@[simp] theorem State.withTable_due (s : State) (x : List Slot) : (s.withTable x).due = s.due := rfl
@[simp] theorem State.withTable_now (s : State) (x : List Slot) : (s.withTable x).now = s.now := rfl
@[simp] theorem State.withTable_freeCount (s : State) (x : List Slot) : (s.withTable x).freeCount = s.freeCount := rfl

@[simp] theorem State.withComposer_pending (s : State) (x : Composer) : (s.withComposer x).pending = s.pending := rfl
@[simp] theorem State.withComposer_resetHeld (s : State) (x : Composer) : (s.withComposer x).resetHeld = s.resetHeld := rfl
@[simp] theorem State.withComposer_loader (s : State) (x : Composer) : (s.withComposer x).loader = s.loader := rfl
@[simp] theorem State.withComposer_config (s : State) (x : Composer) : (s.withComposer x).config = s.config := rfl
@[simp] theorem State.withComposer_time (s : State) (x : Composer) : (s.withComposer x).time = s.time := rfl
@[simp] theorem State.withComposer_table (s : State) (x : Composer) : (s.withComposer x).table = s.table := rfl
@[simp] theorem State.withComposer_composer (s : State) (x : Composer) : (s.withComposer x).composer = x := rfl
@[simp] theorem State.withComposer_pulse (s : State) (x : Composer) : (s.withComposer x).pulse = s.pulse := rfl
@[simp] theorem State.withComposer_trigger (s : State) (x : Composer) : (s.withComposer x).trigger = s.trigger := rfl
@[simp] theorem State.withComposer_origins (s : State) (x : Composer) : (s.withComposer x).origins = s.origins := rfl
@[simp] theorem State.withComposer_publications (s : State) (x : Composer) : (s.withComposer x).publications = s.publications := rfl
@[simp] theorem State.withComposer_ring (s : State) (x : Composer) : (s.withComposer x).ring = s.ring := rfl
@[simp] theorem State.withComposer_roster (s : State) (x : Composer) : (s.withComposer x).roster = s.roster := rfl
@[simp] theorem State.withComposer_controller (s : State) (x : Composer) : (s.withComposer x).controller = s.controller := rfl
@[simp] theorem State.withComposer_responder (s : State) (x : Composer) : (s.withComposer x).responder = s.responder := rfl
@[simp] theorem State.withComposer_counters (s : State) (x : Composer) : (s.withComposer x).counters = s.counters := rfl
@[simp] theorem State.withComposer_due (s : State) (x : Composer) : (s.withComposer x).due = s.due := rfl
@[simp] theorem State.withComposer_now (s : State) (x : Composer) : (s.withComposer x).now = s.now := rfl
@[simp] theorem State.withComposer_freeCount (s : State) (x : Composer) : (s.withComposer x).freeCount = s.freeCount := rfl

@[simp] theorem State.withPulse_pending (s : State) (x : PulseUnit) : (s.withPulse x).pending = s.pending := rfl
@[simp] theorem State.withPulse_resetHeld (s : State) (x : PulseUnit) : (s.withPulse x).resetHeld = s.resetHeld := rfl
@[simp] theorem State.withPulse_loader (s : State) (x : PulseUnit) : (s.withPulse x).loader = s.loader := rfl
@[simp] theorem State.withPulse_config (s : State) (x : PulseUnit) : (s.withPulse x).config = s.config := rfl
@[simp] theorem State.withPulse_time (s : State) (x : PulseUnit) : (s.withPulse x).time = s.time := rfl
@[simp] theorem State.withPulse_table (s : State) (x : PulseUnit) : (s.withPulse x).table = s.table := rfl
@[simp] theorem State.withPulse_composer (s : State) (x : PulseUnit) : (s.withPulse x).composer = s.composer := rfl
@[simp] theorem State.withPulse_pulse (s : State) (x : PulseUnit) : (s.withPulse x).pulse = x := rfl
@[simp] theorem State.withPulse_trigger (s : State) (x : PulseUnit) : (s.withPulse x).trigger = s.trigger := rfl
@[simp] theorem State.withPulse_origins (s : State) (x : PulseUnit) : (s.withPulse x).origins = s.origins := rfl
@[simp] theorem State.withPulse_publications (s : State) (x : PulseUnit) : (s.withPulse x).publications = s.publications := rfl
@[simp] theorem State.withPulse_ring (s : State) (x : PulseUnit) : (s.withPulse x).ring = s.ring := rfl
@[simp] theorem State.withPulse_roster (s : State) (x : PulseUnit) : (s.withPulse x).roster = s.roster := rfl
@[simp] theorem State.withPulse_controller (s : State) (x : PulseUnit) : (s.withPulse x).controller = s.controller := rfl
@[simp] theorem State.withPulse_responder (s : State) (x : PulseUnit) : (s.withPulse x).responder = s.responder := rfl
@[simp] theorem State.withPulse_counters (s : State) (x : PulseUnit) : (s.withPulse x).counters = s.counters := rfl
@[simp] theorem State.withPulse_due (s : State) (x : PulseUnit) : (s.withPulse x).due = s.due := rfl
@[simp] theorem State.withPulse_now (s : State) (x : PulseUnit) : (s.withPulse x).now = s.now := rfl
@[simp] theorem State.withPulse_freeCount (s : State) (x : PulseUnit) : (s.withPulse x).freeCount = s.freeCount := rfl

@[simp] theorem State.withTrigger_pending (s : State) (x : TriggerUnit) : (s.withTrigger x).pending = s.pending := rfl
@[simp] theorem State.withTrigger_resetHeld (s : State) (x : TriggerUnit) : (s.withTrigger x).resetHeld = s.resetHeld := rfl
@[simp] theorem State.withTrigger_loader (s : State) (x : TriggerUnit) : (s.withTrigger x).loader = s.loader := rfl
@[simp] theorem State.withTrigger_config (s : State) (x : TriggerUnit) : (s.withTrigger x).config = s.config := rfl
@[simp] theorem State.withTrigger_time (s : State) (x : TriggerUnit) : (s.withTrigger x).time = s.time := rfl
@[simp] theorem State.withTrigger_table (s : State) (x : TriggerUnit) : (s.withTrigger x).table = s.table := rfl
@[simp] theorem State.withTrigger_composer (s : State) (x : TriggerUnit) : (s.withTrigger x).composer = s.composer := rfl
@[simp] theorem State.withTrigger_pulse (s : State) (x : TriggerUnit) : (s.withTrigger x).pulse = s.pulse := rfl
@[simp] theorem State.withTrigger_trigger (s : State) (x : TriggerUnit) : (s.withTrigger x).trigger = x := rfl
@[simp] theorem State.withTrigger_origins (s : State) (x : TriggerUnit) : (s.withTrigger x).origins = s.origins := rfl
@[simp] theorem State.withTrigger_publications (s : State) (x : TriggerUnit) : (s.withTrigger x).publications = s.publications := rfl
@[simp] theorem State.withTrigger_ring (s : State) (x : TriggerUnit) : (s.withTrigger x).ring = s.ring := rfl
@[simp] theorem State.withTrigger_roster (s : State) (x : TriggerUnit) : (s.withTrigger x).roster = s.roster := rfl
@[simp] theorem State.withTrigger_controller (s : State) (x : TriggerUnit) : (s.withTrigger x).controller = s.controller := rfl
@[simp] theorem State.withTrigger_responder (s : State) (x : TriggerUnit) : (s.withTrigger x).responder = s.responder := rfl
@[simp] theorem State.withTrigger_counters (s : State) (x : TriggerUnit) : (s.withTrigger x).counters = s.counters := rfl
@[simp] theorem State.withTrigger_due (s : State) (x : TriggerUnit) : (s.withTrigger x).due = s.due := rfl
@[simp] theorem State.withTrigger_now (s : State) (x : TriggerUnit) : (s.withTrigger x).now = s.now := rfl
@[simp] theorem State.withTrigger_freeCount (s : State) (x : TriggerUnit) : (s.withTrigger x).freeCount = s.freeCount := rfl

@[simp] theorem State.withOrigins_pending (s : State) (x : List OriginSlot) : (s.withOrigins x).pending = s.pending := rfl
@[simp] theorem State.withOrigins_resetHeld (s : State) (x : List OriginSlot) : (s.withOrigins x).resetHeld = s.resetHeld := rfl
@[simp] theorem State.withOrigins_loader (s : State) (x : List OriginSlot) : (s.withOrigins x).loader = s.loader := rfl
@[simp] theorem State.withOrigins_config (s : State) (x : List OriginSlot) : (s.withOrigins x).config = s.config := rfl
@[simp] theorem State.withOrigins_time (s : State) (x : List OriginSlot) : (s.withOrigins x).time = s.time := rfl
@[simp] theorem State.withOrigins_table (s : State) (x : List OriginSlot) : (s.withOrigins x).table = s.table := rfl
@[simp] theorem State.withOrigins_composer (s : State) (x : List OriginSlot) : (s.withOrigins x).composer = s.composer := rfl
@[simp] theorem State.withOrigins_pulse (s : State) (x : List OriginSlot) : (s.withOrigins x).pulse = s.pulse := rfl
@[simp] theorem State.withOrigins_trigger (s : State) (x : List OriginSlot) : (s.withOrigins x).trigger = s.trigger := rfl
@[simp] theorem State.withOrigins_origins (s : State) (x : List OriginSlot) : (s.withOrigins x).origins = x := rfl
@[simp] theorem State.withOrigins_publications (s : State) (x : List OriginSlot) : (s.withOrigins x).publications = s.publications := rfl
@[simp] theorem State.withOrigins_ring (s : State) (x : List OriginSlot) : (s.withOrigins x).ring = s.ring := rfl
@[simp] theorem State.withOrigins_roster (s : State) (x : List OriginSlot) : (s.withOrigins x).roster = s.roster := rfl
@[simp] theorem State.withOrigins_controller (s : State) (x : List OriginSlot) : (s.withOrigins x).controller = s.controller := rfl
@[simp] theorem State.withOrigins_responder (s : State) (x : List OriginSlot) : (s.withOrigins x).responder = s.responder := rfl
@[simp] theorem State.withOrigins_counters (s : State) (x : List OriginSlot) : (s.withOrigins x).counters = s.counters := rfl
@[simp] theorem State.withOrigins_due (s : State) (x : List OriginSlot) : (s.withOrigins x).due = s.due := rfl
@[simp] theorem State.withOrigins_now (s : State) (x : List OriginSlot) : (s.withOrigins x).now = s.now := rfl
@[simp] theorem State.withOrigins_freeCount (s : State) (x : List OriginSlot) : (s.withOrigins x).freeCount = s.freeCount := rfl

@[simp] theorem State.withPublications_pending (s : State) (x : List Publication) : (s.withPublications x).pending = s.pending := rfl
@[simp] theorem State.withPublications_resetHeld (s : State) (x : List Publication) : (s.withPublications x).resetHeld = s.resetHeld := rfl
@[simp] theorem State.withPublications_loader (s : State) (x : List Publication) : (s.withPublications x).loader = s.loader := rfl
@[simp] theorem State.withPublications_config (s : State) (x : List Publication) : (s.withPublications x).config = s.config := rfl
@[simp] theorem State.withPublications_time (s : State) (x : List Publication) : (s.withPublications x).time = s.time := rfl
@[simp] theorem State.withPublications_table (s : State) (x : List Publication) : (s.withPublications x).table = s.table := rfl
@[simp] theorem State.withPublications_composer (s : State) (x : List Publication) : (s.withPublications x).composer = s.composer := rfl
@[simp] theorem State.withPublications_pulse (s : State) (x : List Publication) : (s.withPublications x).pulse = s.pulse := rfl
@[simp] theorem State.withPublications_trigger (s : State) (x : List Publication) : (s.withPublications x).trigger = s.trigger := rfl
@[simp] theorem State.withPublications_origins (s : State) (x : List Publication) : (s.withPublications x).origins = s.origins := rfl
@[simp] theorem State.withPublications_publications (s : State) (x : List Publication) : (s.withPublications x).publications = x := rfl
@[simp] theorem State.withPublications_ring (s : State) (x : List Publication) : (s.withPublications x).ring = s.ring := rfl
@[simp] theorem State.withPublications_roster (s : State) (x : List Publication) : (s.withPublications x).roster = s.roster := rfl
@[simp] theorem State.withPublications_controller (s : State) (x : List Publication) : (s.withPublications x).controller = s.controller := rfl
@[simp] theorem State.withPublications_responder (s : State) (x : List Publication) : (s.withPublications x).responder = s.responder := rfl
@[simp] theorem State.withPublications_counters (s : State) (x : List Publication) : (s.withPublications x).counters = s.counters := rfl
@[simp] theorem State.withPublications_due (s : State) (x : List Publication) : (s.withPublications x).due = s.due := rfl
@[simp] theorem State.withPublications_now (s : State) (x : List Publication) : (s.withPublications x).now = s.now := rfl
@[simp] theorem State.withPublications_freeCount (s : State) (x : List Publication) : (s.withPublications x).freeCount = s.freeCount := rfl

@[simp] theorem State.withRing_pending (s : State) (x : RingPort) : (s.withRing x).pending = s.pending := rfl
@[simp] theorem State.withRing_resetHeld (s : State) (x : RingPort) : (s.withRing x).resetHeld = s.resetHeld := rfl
@[simp] theorem State.withRing_loader (s : State) (x : RingPort) : (s.withRing x).loader = s.loader := rfl
@[simp] theorem State.withRing_config (s : State) (x : RingPort) : (s.withRing x).config = s.config := rfl
@[simp] theorem State.withRing_time (s : State) (x : RingPort) : (s.withRing x).time = s.time := rfl
@[simp] theorem State.withRing_table (s : State) (x : RingPort) : (s.withRing x).table = s.table := rfl
@[simp] theorem State.withRing_composer (s : State) (x : RingPort) : (s.withRing x).composer = s.composer := rfl
@[simp] theorem State.withRing_pulse (s : State) (x : RingPort) : (s.withRing x).pulse = s.pulse := rfl
@[simp] theorem State.withRing_trigger (s : State) (x : RingPort) : (s.withRing x).trigger = s.trigger := rfl
@[simp] theorem State.withRing_origins (s : State) (x : RingPort) : (s.withRing x).origins = s.origins := rfl
@[simp] theorem State.withRing_publications (s : State) (x : RingPort) : (s.withRing x).publications = s.publications := rfl
@[simp] theorem State.withRing_ring (s : State) (x : RingPort) : (s.withRing x).ring = x := rfl
@[simp] theorem State.withRing_roster (s : State) (x : RingPort) : (s.withRing x).roster = s.roster := rfl
@[simp] theorem State.withRing_controller (s : State) (x : RingPort) : (s.withRing x).controller = s.controller := rfl
@[simp] theorem State.withRing_responder (s : State) (x : RingPort) : (s.withRing x).responder = s.responder := rfl
@[simp] theorem State.withRing_counters (s : State) (x : RingPort) : (s.withRing x).counters = s.counters := rfl
@[simp] theorem State.withRing_due (s : State) (x : RingPort) : (s.withRing x).due = s.due := rfl
@[simp] theorem State.withRing_now (s : State) (x : RingPort) : (s.withRing x).now = s.now := rfl
@[simp] theorem State.withRing_freeCount (s : State) (x : RingPort) : (s.withRing x).freeCount = s.freeCount := rfl

@[simp] theorem State.withRoster_pending (s : State) (x : List Peer) : (s.withRoster x).pending = s.pending := rfl
@[simp] theorem State.withRoster_resetHeld (s : State) (x : List Peer) : (s.withRoster x).resetHeld = s.resetHeld := rfl
@[simp] theorem State.withRoster_loader (s : State) (x : List Peer) : (s.withRoster x).loader = s.loader := rfl
@[simp] theorem State.withRoster_config (s : State) (x : List Peer) : (s.withRoster x).config = s.config := rfl
@[simp] theorem State.withRoster_time (s : State) (x : List Peer) : (s.withRoster x).time = s.time := rfl
@[simp] theorem State.withRoster_table (s : State) (x : List Peer) : (s.withRoster x).table = s.table := rfl
@[simp] theorem State.withRoster_composer (s : State) (x : List Peer) : (s.withRoster x).composer = s.composer := rfl
@[simp] theorem State.withRoster_pulse (s : State) (x : List Peer) : (s.withRoster x).pulse = s.pulse := rfl
@[simp] theorem State.withRoster_trigger (s : State) (x : List Peer) : (s.withRoster x).trigger = s.trigger := rfl
@[simp] theorem State.withRoster_origins (s : State) (x : List Peer) : (s.withRoster x).origins = s.origins := rfl
@[simp] theorem State.withRoster_publications (s : State) (x : List Peer) : (s.withRoster x).publications = s.publications := rfl
@[simp] theorem State.withRoster_ring (s : State) (x : List Peer) : (s.withRoster x).ring = s.ring := rfl
@[simp] theorem State.withRoster_roster (s : State) (x : List Peer) : (s.withRoster x).roster = x := rfl
@[simp] theorem State.withRoster_controller (s : State) (x : List Peer) : (s.withRoster x).controller = s.controller := rfl
@[simp] theorem State.withRoster_responder (s : State) (x : List Peer) : (s.withRoster x).responder = s.responder := rfl
@[simp] theorem State.withRoster_counters (s : State) (x : List Peer) : (s.withRoster x).counters = s.counters := rfl
@[simp] theorem State.withRoster_due (s : State) (x : List Peer) : (s.withRoster x).due = s.due := rfl
@[simp] theorem State.withRoster_now (s : State) (x : List Peer) : (s.withRoster x).now = s.now := rfl
@[simp] theorem State.withRoster_freeCount (s : State) (x : List Peer) : (s.withRoster x).freeCount = s.freeCount := rfl

@[simp] theorem State.withController_pending (s : State) (x : Controller) : (s.withController x).pending = s.pending := rfl
@[simp] theorem State.withController_resetHeld (s : State) (x : Controller) : (s.withController x).resetHeld = s.resetHeld := rfl
@[simp] theorem State.withController_loader (s : State) (x : Controller) : (s.withController x).loader = s.loader := rfl
@[simp] theorem State.withController_config (s : State) (x : Controller) : (s.withController x).config = s.config := rfl
@[simp] theorem State.withController_time (s : State) (x : Controller) : (s.withController x).time = s.time := rfl
@[simp] theorem State.withController_table (s : State) (x : Controller) : (s.withController x).table = s.table := rfl
@[simp] theorem State.withController_composer (s : State) (x : Controller) : (s.withController x).composer = s.composer := rfl
@[simp] theorem State.withController_pulse (s : State) (x : Controller) : (s.withController x).pulse = s.pulse := rfl
@[simp] theorem State.withController_trigger (s : State) (x : Controller) : (s.withController x).trigger = s.trigger := rfl
@[simp] theorem State.withController_origins (s : State) (x : Controller) : (s.withController x).origins = s.origins := rfl
@[simp] theorem State.withController_publications (s : State) (x : Controller) : (s.withController x).publications = s.publications := rfl
@[simp] theorem State.withController_ring (s : State) (x : Controller) : (s.withController x).ring = s.ring := rfl
@[simp] theorem State.withController_roster (s : State) (x : Controller) : (s.withController x).roster = s.roster := rfl
@[simp] theorem State.withController_controller (s : State) (x : Controller) : (s.withController x).controller = x := rfl
@[simp] theorem State.withController_responder (s : State) (x : Controller) : (s.withController x).responder = s.responder := rfl
@[simp] theorem State.withController_counters (s : State) (x : Controller) : (s.withController x).counters = s.counters := rfl
@[simp] theorem State.withController_due (s : State) (x : Controller) : (s.withController x).due = s.due := rfl
@[simp] theorem State.withController_now (s : State) (x : Controller) : (s.withController x).now = s.now := rfl
@[simp] theorem State.withController_freeCount (s : State) (x : Controller) : (s.withController x).freeCount = s.freeCount := rfl

@[simp] theorem State.withResponder_pending (s : State) (x : Responder) : (s.withResponder x).pending = s.pending := rfl
@[simp] theorem State.withResponder_resetHeld (s : State) (x : Responder) : (s.withResponder x).resetHeld = s.resetHeld := rfl
@[simp] theorem State.withResponder_loader (s : State) (x : Responder) : (s.withResponder x).loader = s.loader := rfl
@[simp] theorem State.withResponder_config (s : State) (x : Responder) : (s.withResponder x).config = s.config := rfl
@[simp] theorem State.withResponder_time (s : State) (x : Responder) : (s.withResponder x).time = s.time := rfl
@[simp] theorem State.withResponder_table (s : State) (x : Responder) : (s.withResponder x).table = s.table := rfl
@[simp] theorem State.withResponder_composer (s : State) (x : Responder) : (s.withResponder x).composer = s.composer := rfl
@[simp] theorem State.withResponder_pulse (s : State) (x : Responder) : (s.withResponder x).pulse = s.pulse := rfl
@[simp] theorem State.withResponder_trigger (s : State) (x : Responder) : (s.withResponder x).trigger = s.trigger := rfl
@[simp] theorem State.withResponder_origins (s : State) (x : Responder) : (s.withResponder x).origins = s.origins := rfl
@[simp] theorem State.withResponder_publications (s : State) (x : Responder) : (s.withResponder x).publications = s.publications := rfl
@[simp] theorem State.withResponder_ring (s : State) (x : Responder) : (s.withResponder x).ring = s.ring := rfl
@[simp] theorem State.withResponder_roster (s : State) (x : Responder) : (s.withResponder x).roster = s.roster := rfl
@[simp] theorem State.withResponder_controller (s : State) (x : Responder) : (s.withResponder x).controller = s.controller := rfl
@[simp] theorem State.withResponder_responder (s : State) (x : Responder) : (s.withResponder x).responder = x := rfl
@[simp] theorem State.withResponder_counters (s : State) (x : Responder) : (s.withResponder x).counters = s.counters := rfl
@[simp] theorem State.withResponder_due (s : State) (x : Responder) : (s.withResponder x).due = s.due := rfl
@[simp] theorem State.withResponder_now (s : State) (x : Responder) : (s.withResponder x).now = s.now := rfl
@[simp] theorem State.withResponder_freeCount (s : State) (x : Responder) : (s.withResponder x).freeCount = s.freeCount := rfl

@[simp] theorem State.withCounters_pending (s : State) (x : Counters) : (s.withCounters x).pending = s.pending := rfl
@[simp] theorem State.withCounters_resetHeld (s : State) (x : Counters) : (s.withCounters x).resetHeld = s.resetHeld := rfl
@[simp] theorem State.withCounters_loader (s : State) (x : Counters) : (s.withCounters x).loader = s.loader := rfl
@[simp] theorem State.withCounters_config (s : State) (x : Counters) : (s.withCounters x).config = s.config := rfl
@[simp] theorem State.withCounters_time (s : State) (x : Counters) : (s.withCounters x).time = s.time := rfl
@[simp] theorem State.withCounters_table (s : State) (x : Counters) : (s.withCounters x).table = s.table := rfl
@[simp] theorem State.withCounters_composer (s : State) (x : Counters) : (s.withCounters x).composer = s.composer := rfl
@[simp] theorem State.withCounters_pulse (s : State) (x : Counters) : (s.withCounters x).pulse = s.pulse := rfl
@[simp] theorem State.withCounters_trigger (s : State) (x : Counters) : (s.withCounters x).trigger = s.trigger := rfl
@[simp] theorem State.withCounters_origins (s : State) (x : Counters) : (s.withCounters x).origins = s.origins := rfl
@[simp] theorem State.withCounters_publications (s : State) (x : Counters) : (s.withCounters x).publications = s.publications := rfl
@[simp] theorem State.withCounters_ring (s : State) (x : Counters) : (s.withCounters x).ring = s.ring := rfl
@[simp] theorem State.withCounters_roster (s : State) (x : Counters) : (s.withCounters x).roster = s.roster := rfl
@[simp] theorem State.withCounters_controller (s : State) (x : Counters) : (s.withCounters x).controller = s.controller := rfl
@[simp] theorem State.withCounters_responder (s : State) (x : Counters) : (s.withCounters x).responder = s.responder := rfl
@[simp] theorem State.withCounters_counters (s : State) (x : Counters) : (s.withCounters x).counters = x := rfl
@[simp] theorem State.withCounters_due (s : State) (x : Counters) : (s.withCounters x).due = s.due := rfl
@[simp] theorem State.withCounters_now (s : State) (x : Counters) : (s.withCounters x).now = s.now := rfl
@[simp] theorem State.withCounters_freeCount (s : State) (x : Counters) : (s.withCounters x).freeCount = s.freeCount := rfl

@[simp] theorem State.withDue_pending (s : State) (x : Due) : (s.withDue x).pending = s.pending := rfl
@[simp] theorem State.withDue_resetHeld (s : State) (x : Due) : (s.withDue x).resetHeld = s.resetHeld := rfl
@[simp] theorem State.withDue_loader (s : State) (x : Due) : (s.withDue x).loader = s.loader := rfl
@[simp] theorem State.withDue_config (s : State) (x : Due) : (s.withDue x).config = s.config := rfl
@[simp] theorem State.withDue_time (s : State) (x : Due) : (s.withDue x).time = s.time := rfl
@[simp] theorem State.withDue_table (s : State) (x : Due) : (s.withDue x).table = s.table := rfl
@[simp] theorem State.withDue_composer (s : State) (x : Due) : (s.withDue x).composer = s.composer := rfl
@[simp] theorem State.withDue_pulse (s : State) (x : Due) : (s.withDue x).pulse = s.pulse := rfl
@[simp] theorem State.withDue_trigger (s : State) (x : Due) : (s.withDue x).trigger = s.trigger := rfl
@[simp] theorem State.withDue_origins (s : State) (x : Due) : (s.withDue x).origins = s.origins := rfl
@[simp] theorem State.withDue_publications (s : State) (x : Due) : (s.withDue x).publications = s.publications := rfl
@[simp] theorem State.withDue_ring (s : State) (x : Due) : (s.withDue x).ring = s.ring := rfl
@[simp] theorem State.withDue_roster (s : State) (x : Due) : (s.withDue x).roster = s.roster := rfl
@[simp] theorem State.withDue_controller (s : State) (x : Due) : (s.withDue x).controller = s.controller := rfl
@[simp] theorem State.withDue_responder (s : State) (x : Due) : (s.withDue x).responder = s.responder := rfl
@[simp] theorem State.withDue_counters (s : State) (x : Due) : (s.withDue x).counters = s.counters := rfl
@[simp] theorem State.withDue_due (s : State) (x : Due) : (s.withDue x).due = x := rfl
@[simp] theorem State.withDue_now (s : State) (x : Due) : (s.withDue x).now = s.now := rfl
@[simp] theorem State.withDue_freeCount (s : State) (x : Due) : (s.withDue x).freeCount = s.freeCount := rfl

@[simp] theorem State.withFreeCount_pending (s : State) (x : Nat) : (s.withFreeCount x).pending = s.pending := rfl
@[simp] theorem State.withFreeCount_resetHeld (s : State) (x : Nat) : (s.withFreeCount x).resetHeld = s.resetHeld := rfl
@[simp] theorem State.withFreeCount_loader (s : State) (x : Nat) : (s.withFreeCount x).loader = s.loader := rfl
@[simp] theorem State.withFreeCount_config (s : State) (x : Nat) : (s.withFreeCount x).config = s.config := rfl
@[simp] theorem State.withFreeCount_time (s : State) (x : Nat) : (s.withFreeCount x).time = s.time := rfl
@[simp] theorem State.withFreeCount_table (s : State) (x : Nat) : (s.withFreeCount x).table = s.table := rfl
@[simp] theorem State.withFreeCount_composer (s : State) (x : Nat) : (s.withFreeCount x).composer = s.composer := rfl
@[simp] theorem State.withFreeCount_pulse (s : State) (x : Nat) : (s.withFreeCount x).pulse = s.pulse := rfl
@[simp] theorem State.withFreeCount_trigger (s : State) (x : Nat) : (s.withFreeCount x).trigger = s.trigger := rfl
@[simp] theorem State.withFreeCount_origins (s : State) (x : Nat) : (s.withFreeCount x).origins = s.origins := rfl
@[simp] theorem State.withFreeCount_publications (s : State) (x : Nat) : (s.withFreeCount x).publications = s.publications := rfl
@[simp] theorem State.withFreeCount_ring (s : State) (x : Nat) : (s.withFreeCount x).ring = s.ring := rfl
@[simp] theorem State.withFreeCount_roster (s : State) (x : Nat) : (s.withFreeCount x).roster = s.roster := rfl
@[simp] theorem State.withFreeCount_controller (s : State) (x : Nat) : (s.withFreeCount x).controller = s.controller := rfl
@[simp] theorem State.withFreeCount_responder (s : State) (x : Nat) : (s.withFreeCount x).responder = s.responder := rfl
@[simp] theorem State.withFreeCount_counters (s : State) (x : Nat) : (s.withFreeCount x).counters = s.counters := rfl
@[simp] theorem State.withFreeCount_due (s : State) (x : Nat) : (s.withFreeCount x).due = s.due := rfl
@[simp] theorem State.withFreeCount_now (s : State) (x : Nat) : (s.withFreeCount x).now = s.now := rfl
@[simp] theorem State.withFreeCount_freeCount (s : State) (x : Nat) : (s.withFreeCount x).freeCount = x := rfl

end Sys2Proof.Machine
end

