-- ==== Sys2Proof/Laws/Frames.lean ====
section
/-! SUPPORT. For each shared operation, the fields of the state that it leaves as they are. -/

namespace Sys2Proof.Machine

/-- A field that every turn of a fold keeps is kept by the fold. -/
theorem foldl_keeps {α β : Type} (p : State → β) (f : State → α → State) (h : ∀ s a, p (f s a) = p s) :
    ∀ (l : List α) (s : State), p (l.foldl f s) = p s := by
  intro l
  induction l with
  | nil => intro s; rfl
  | cons a l ih => intro s; simp only [List.foldl_cons, ih, h]

@[simp] theorem State.setOriginSlot_frame (s : State) (t : Nat) (o : OriginSlot) :
    (s.setOriginSlot t o).pending = s.pending ∧ (s.setOriginSlot t o).resetHeld = s.resetHeld ∧
    (s.setOriginSlot t o).loader = s.loader ∧ (s.setOriginSlot t o).config = s.config ∧
    (s.setOriginSlot t o).time = s.time ∧ (s.setOriginSlot t o).table = s.table ∧
    (s.setOriginSlot t o).composer = s.composer ∧ (s.setOriginSlot t o).pulse = s.pulse ∧
    (s.setOriginSlot t o).trigger = s.trigger ∧ (s.setOriginSlot t o).publications = s.publications ∧
    (s.setOriginSlot t o).ring = s.ring ∧ (s.setOriginSlot t o).roster = s.roster ∧
    (s.setOriginSlot t o).controller = s.controller ∧ (s.setOriginSlot t o).responder = s.responder ∧
    (s.setOriginSlot t o).counters = s.counters ∧ (s.setOriginSlot t o).due = s.due ∧
    (s.setOriginSlot t o).now = s.now ∧ (s.setOriginSlot t o).freeCount = s.freeCount := by
  unfold State.setOriginSlot
  try dsimp only
  simp

@[simp] theorem State.takeSequence_frame (s : State) :
    s.takeSequence.2.pending = s.pending ∧ s.takeSequence.2.resetHeld = s.resetHeld ∧
    s.takeSequence.2.loader = s.loader ∧ s.takeSequence.2.config = s.config ∧ s.takeSequence.2.time = s.time ∧
    s.takeSequence.2.table = s.table ∧ s.takeSequence.2.composer = s.composer ∧ s.takeSequence.2.pulse = s.pulse ∧
    s.takeSequence.2.trigger = s.trigger ∧ s.takeSequence.2.origins = s.origins ∧
    s.takeSequence.2.publications = s.publications ∧ s.takeSequence.2.roster = s.roster ∧
    s.takeSequence.2.controller = s.controller ∧ s.takeSequence.2.responder = s.responder ∧
    s.takeSequence.2.counters = s.counters ∧ s.takeSequence.2.due = s.due ∧ s.takeSequence.2.now = s.now ∧
    s.takeSequence.2.freeCount = s.freeCount := by
  unfold State.takeSequence
  try dsimp only
  simp

@[simp] theorem State.takeTarget_frame (s : State) :
    s.takeTarget.2.pending = s.pending ∧ s.takeTarget.2.resetHeld = s.resetHeld ∧ s.takeTarget.2.loader = s.loader ∧
    s.takeTarget.2.config = s.config ∧ s.takeTarget.2.time = s.time ∧ s.takeTarget.2.table = s.table ∧
    s.takeTarget.2.composer = s.composer ∧ s.takeTarget.2.pulse = s.pulse ∧ s.takeTarget.2.trigger = s.trigger ∧
    s.takeTarget.2.origins = s.origins ∧ s.takeTarget.2.publications = s.publications ∧
    s.takeTarget.2.ring = s.ring ∧ s.takeTarget.2.roster = s.roster ∧ s.takeTarget.2.controller = s.controller ∧
    s.takeTarget.2.responder = s.responder ∧ s.takeTarget.2.counters = s.counters ∧ s.takeTarget.2.due = s.due ∧
    s.takeTarget.2.now = s.now := by
  unfold State.takeTarget
  try dsimp only
  simp

@[simp] theorem State.enqueue_frame (s : State) (m : OwnMessage) :
    (s.enqueue m).pending = s.pending ∧ (s.enqueue m).resetHeld = s.resetHeld ∧ (s.enqueue m).loader = s.loader ∧
    (s.enqueue m).config = s.config ∧ (s.enqueue m).time = s.time ∧ (s.enqueue m).table = s.table ∧
    (s.enqueue m).composer = s.composer ∧ (s.enqueue m).pulse = s.pulse ∧ (s.enqueue m).trigger = s.trigger ∧
    (s.enqueue m).origins = s.origins ∧ (s.enqueue m).publications = s.publications ∧
    (s.enqueue m).roster = s.roster ∧ (s.enqueue m).controller = s.controller ∧
    (s.enqueue m).responder = s.responder ∧ (s.enqueue m).counters = s.counters ∧ (s.enqueue m).due = s.due ∧
    (s.enqueue m).now = s.now ∧ (s.enqueue m).freeCount = s.freeCount := by
  unfold State.enqueue
  try dsimp only
  simp

@[simp] theorem State.count_frame (s : State) (k : Counter) :
    (s.count k).pending = s.pending ∧ (s.count k).resetHeld = s.resetHeld ∧ (s.count k).loader = s.loader ∧
    (s.count k).config = s.config ∧ (s.count k).time = s.time ∧ (s.count k).table = s.table ∧
    (s.count k).composer = s.composer ∧ (s.count k).pulse = s.pulse ∧ (s.count k).trigger = s.trigger ∧
    (s.count k).origins = s.origins ∧ (s.count k).publications = s.publications ∧ (s.count k).ring = s.ring ∧
    (s.count k).roster = s.roster ∧ (s.count k).controller = s.controller ∧ (s.count k).responder = s.responder ∧
    (s.count k).due = s.due ∧ (s.count k).now = s.now ∧ (s.count k).freeCount = s.freeCount := by
  unfold State.count
  try dsimp only
  simp

@[simp] theorem State.noteLate_frame (s : State) :
    s.noteLate.pending = s.pending ∧ s.noteLate.resetHeld = s.resetHeld ∧ s.noteLate.loader = s.loader ∧
    s.noteLate.config = s.config ∧ s.noteLate.time = s.time ∧ s.noteLate.table = s.table ∧
    s.noteLate.composer = s.composer ∧ s.noteLate.pulse = s.pulse ∧ s.noteLate.trigger = s.trigger ∧
    s.noteLate.origins = s.origins ∧ s.noteLate.publications = s.publications ∧ s.noteLate.ring = s.ring ∧
    s.noteLate.roster = s.roster ∧ s.noteLate.controller = s.controller ∧ s.noteLate.counters = s.counters ∧
    s.noteLate.due = s.due ∧ s.noteLate.now = s.now ∧ s.noteLate.freeCount = s.freeCount := by
  unfold State.noteLate
  try dsimp only
  simp

@[simp] theorem State.noteRefusal_frame (s : State) :
    s.noteRefusal.pending = s.pending ∧ s.noteRefusal.resetHeld = s.resetHeld ∧ s.noteRefusal.loader = s.loader ∧
    s.noteRefusal.config = s.config ∧ s.noteRefusal.time = s.time ∧ s.noteRefusal.table = s.table ∧
    s.noteRefusal.composer = s.composer ∧ s.noteRefusal.pulse = s.pulse ∧ s.noteRefusal.trigger = s.trigger ∧
    s.noteRefusal.origins = s.origins ∧ s.noteRefusal.publications = s.publications ∧ s.noteRefusal.ring = s.ring ∧
    s.noteRefusal.roster = s.roster ∧ s.noteRefusal.controller = s.controller ∧
    s.noteRefusal.counters = s.counters ∧ s.noteRefusal.due = s.due ∧ s.noteRefusal.now = s.now ∧
    s.noteRefusal.freeCount = s.freeCount := by
  unfold State.noteRefusal
  try dsimp only
  simp

@[simp] theorem State.noteOverflow_frame (s : State) :
    s.noteOverflow.pending = s.pending ∧ s.noteOverflow.resetHeld = s.resetHeld ∧ s.noteOverflow.loader = s.loader ∧
    s.noteOverflow.config = s.config ∧ s.noteOverflow.time = s.time ∧ s.noteOverflow.table = s.table ∧
    s.noteOverflow.composer = s.composer ∧ s.noteOverflow.pulse = s.pulse ∧ s.noteOverflow.trigger = s.trigger ∧
    s.noteOverflow.origins = s.origins ∧ s.noteOverflow.publications = s.publications ∧
    s.noteOverflow.ring = s.ring ∧ s.noteOverflow.roster = s.roster ∧ s.noteOverflow.controller = s.controller ∧
    s.noteOverflow.counters = s.counters ∧ s.noteOverflow.due = s.due ∧ s.noteOverflow.now = s.now ∧
    s.noteOverflow.freeCount = s.freeCount := by
  unfold State.noteOverflow
  try dsimp only
  simp

@[simp] theorem State.storeCueAt_frame (s : State) (i : Nat) (c : Cue) (k : Counter) :
    (s.storeCueAt i c k).pending = s.pending ∧ (s.storeCueAt i c k).resetHeld = s.resetHeld ∧
    (s.storeCueAt i c k).loader = s.loader ∧ (s.storeCueAt i c k).config = s.config ∧
    (s.storeCueAt i c k).time = s.time ∧ (s.storeCueAt i c k).composer = s.composer ∧
    (s.storeCueAt i c k).pulse = s.pulse ∧ (s.storeCueAt i c k).trigger = s.trigger ∧
    (s.storeCueAt i c k).origins = s.origins ∧ (s.storeCueAt i c k).publications = s.publications ∧
    (s.storeCueAt i c k).ring = s.ring ∧ (s.storeCueAt i c k).roster = s.roster ∧
    (s.storeCueAt i c k).controller = s.controller ∧ (s.storeCueAt i c k).due = s.due ∧
    (s.storeCueAt i c k).now = s.now ∧ (s.storeCueAt i c k).freeCount = s.freeCount := by
  unfold State.storeCueAt
  try dsimp only
  (repeat' split) <;> simp

@[simp] theorem State.refuseContent_frame (s : State) :
    s.refuseContent.pending = s.pending ∧ s.refuseContent.resetHeld = s.resetHeld ∧
    s.refuseContent.loader = s.loader ∧ s.refuseContent.config = s.config ∧ s.refuseContent.time = s.time ∧
    s.refuseContent.table = s.table ∧ s.refuseContent.composer = s.composer ∧ s.refuseContent.pulse = s.pulse ∧
    s.refuseContent.trigger = s.trigger ∧ s.refuseContent.origins = s.origins ∧
    s.refuseContent.publications = s.publications ∧ s.refuseContent.ring = s.ring ∧
    s.refuseContent.roster = s.roster ∧ s.refuseContent.controller = s.controller ∧ s.refuseContent.due = s.due ∧
    s.refuseContent.now = s.now ∧ s.refuseContent.freeCount = s.freeCount := by
  unfold State.refuseContent
  try dsimp only
  simp

@[simp] theorem State.takeCue_frame (s : State) (c : Cue) (b : Bool) :
    (s.takeCue c b).2.pending = s.pending ∧ (s.takeCue c b).2.resetHeld = s.resetHeld ∧
    (s.takeCue c b).2.loader = s.loader ∧ (s.takeCue c b).2.config = s.config ∧ (s.takeCue c b).2.time = s.time ∧
    (s.takeCue c b).2.composer = s.composer ∧ (s.takeCue c b).2.pulse = s.pulse ∧
    (s.takeCue c b).2.trigger = s.trigger ∧ (s.takeCue c b).2.origins = s.origins ∧
    (s.takeCue c b).2.publications = s.publications ∧ (s.takeCue c b).2.ring = s.ring ∧
    (s.takeCue c b).2.roster = s.roster ∧ (s.takeCue c b).2.controller = s.controller ∧
    (s.takeCue c b).2.due = s.due ∧ (s.takeCue c b).2.now = s.now ∧ (s.takeCue c b).2.freeCount = s.freeCount := by
  unfold State.takeCue
  try dsimp only
  (repeat' split) <;> simp

@[simp] theorem State.takeRelease_frame (s : State) (o : NodeId) (n : Byte) (r : Revision) (f : FadeOut) (b : Bool) :
    (s.takeRelease o n r f b).2.pending = s.pending ∧ (s.takeRelease o n r f b).2.resetHeld = s.resetHeld ∧
    (s.takeRelease o n r f b).2.loader = s.loader ∧ (s.takeRelease o n r f b).2.config = s.config ∧
    (s.takeRelease o n r f b).2.time = s.time ∧ (s.takeRelease o n r f b).2.composer = s.composer ∧
    (s.takeRelease o n r f b).2.pulse = s.pulse ∧ (s.takeRelease o n r f b).2.trigger = s.trigger ∧
    (s.takeRelease o n r f b).2.origins = s.origins ∧ (s.takeRelease o n r f b).2.publications = s.publications ∧
    (s.takeRelease o n r f b).2.ring = s.ring ∧ (s.takeRelease o n r f b).2.roster = s.roster ∧
    (s.takeRelease o n r f b).2.controller = s.controller ∧ (s.takeRelease o n r f b).2.due = s.due ∧
    (s.takeRelease o n r f b).2.now = s.now ∧ (s.takeRelease o n r f b).2.freeCount = s.freeCount := by
  unfold State.takeRelease
  try dsimp only
  (repeat' split) <;> simp

@[simp] theorem State.takeClear_frame (s : State) (o : NodeId) (n : StepNo) (b : Bool) :
    (s.takeClear o n b).pending = s.pending ∧ (s.takeClear o n b).resetHeld = s.resetHeld ∧
    (s.takeClear o n b).loader = s.loader ∧ (s.takeClear o n b).config = s.config ∧
    (s.takeClear o n b).time = s.time ∧ (s.takeClear o n b).composer = s.composer ∧
    (s.takeClear o n b).pulse = s.pulse ∧ (s.takeClear o n b).trigger = s.trigger ∧
    (s.takeClear o n b).origins = s.origins ∧ (s.takeClear o n b).publications = s.publications ∧
    (s.takeClear o n b).ring = s.ring ∧ (s.takeClear o n b).roster = s.roster ∧
    (s.takeClear o n b).controller = s.controller ∧ (s.takeClear o n b).responder = s.responder ∧
    (s.takeClear o n b).due = s.due ∧ (s.takeClear o n b).now = s.now ∧
    (s.takeClear o n b).freeCount = s.freeCount := by
  unfold State.takeClear
  try dsimp only
  (repeat' split) <;> simp

@[simp] theorem State.purgeOrigin_frame (s : State) (o : NodeId) :
    (s.purgeOrigin o).pending = s.pending ∧ (s.purgeOrigin o).resetHeld = s.resetHeld ∧
    (s.purgeOrigin o).loader = s.loader ∧ (s.purgeOrigin o).config = s.config ∧ (s.purgeOrigin o).time = s.time ∧
    (s.purgeOrigin o).composer = s.composer ∧ (s.purgeOrigin o).pulse = s.pulse ∧
    (s.purgeOrigin o).trigger = s.trigger ∧ (s.purgeOrigin o).origins = s.origins ∧
    (s.purgeOrigin o).publications = s.publications ∧ (s.purgeOrigin o).ring = s.ring ∧
    (s.purgeOrigin o).roster = s.roster ∧ (s.purgeOrigin o).controller = s.controller ∧
    (s.purgeOrigin o).responder = s.responder ∧ (s.purgeOrigin o).counters = s.counters ∧
    (s.purgeOrigin o).due = s.due ∧ (s.purgeOrigin o).now = s.now ∧ (s.purgeOrigin o).freeCount = s.freeCount := by
  unfold State.purgeOrigin
  try dsimp only
  simp

@[simp] theorem State.dropOrphans_frame (s : State) (o : NodeId) :
    (s.dropOrphans o).pending = s.pending ∧ (s.dropOrphans o).resetHeld = s.resetHeld ∧
    (s.dropOrphans o).loader = s.loader ∧ (s.dropOrphans o).config = s.config ∧ (s.dropOrphans o).time = s.time ∧
    (s.dropOrphans o).composer = s.composer ∧ (s.dropOrphans o).pulse = s.pulse ∧
    (s.dropOrphans o).trigger = s.trigger ∧ (s.dropOrphans o).origins = s.origins ∧
    (s.dropOrphans o).publications = s.publications ∧ (s.dropOrphans o).ring = s.ring ∧
    (s.dropOrphans o).roster = s.roster ∧ (s.dropOrphans o).controller = s.controller ∧
    (s.dropOrphans o).responder = s.responder ∧ (s.dropOrphans o).counters = s.counters ∧
    (s.dropOrphans o).due = s.due ∧ (s.dropOrphans o).now = s.now ∧ (s.dropOrphans o).freeCount = s.freeCount := by
  unfold State.dropOrphans
  try dsimp only
  simp

@[simp] theorem State.abortPass_frame (s : State) :
    s.abortPass.pending = s.pending ∧ s.abortPass.resetHeld = s.resetHeld ∧ s.abortPass.loader = s.loader ∧
    s.abortPass.config = s.config ∧ s.abortPass.time = s.time ∧ s.abortPass.table = s.table ∧
    s.abortPass.pulse = s.pulse ∧ s.abortPass.trigger = s.trigger ∧ s.abortPass.origins = s.origins ∧
    s.abortPass.publications = s.publications ∧ s.abortPass.ring = s.ring ∧ s.abortPass.roster = s.roster ∧
    s.abortPass.controller = s.controller ∧ s.abortPass.responder = s.responder ∧ s.abortPass.due = s.due ∧
    s.abortPass.now = s.now ∧ s.abortPass.freeCount = s.freeCount := by
  unfold State.abortPass
  try dsimp only
  (repeat' split) <;> simp

@[simp] theorem State.startPass_frame (s : State) (n : StepNo) :
    (s.startPass n).pending = s.pending ∧ (s.startPass n).resetHeld = s.resetHeld ∧
    (s.startPass n).loader = s.loader ∧ (s.startPass n).config = s.config ∧ (s.startPass n).time = s.time ∧
    (s.startPass n).pulse = s.pulse ∧ (s.startPass n).trigger = s.trigger ∧ (s.startPass n).origins = s.origins ∧
    (s.startPass n).publications = s.publications ∧ (s.startPass n).ring = s.ring ∧
    (s.startPass n).roster = s.roster ∧ (s.startPass n).controller = s.controller ∧
    (s.startPass n).responder = s.responder ∧ (s.startPass n).now = s.now ∧
    (s.startPass n).freeCount = s.freeCount := by
  unfold State.startPass
  try dsimp only
  (repeat' split) <;> simp

@[simp] theorem State.recordIsolation_frame (s : State) :
    s.recordIsolation.pending = s.pending ∧ s.recordIsolation.resetHeld = s.resetHeld ∧
    s.recordIsolation.loader = s.loader ∧ s.recordIsolation.config = s.config ∧ s.recordIsolation.time = s.time ∧
    s.recordIsolation.table = s.table ∧ s.recordIsolation.pulse = s.pulse ∧ s.recordIsolation.trigger = s.trigger ∧
    s.recordIsolation.origins = s.origins ∧ s.recordIsolation.publications = s.publications ∧
    s.recordIsolation.ring = s.ring ∧ s.recordIsolation.roster = s.roster ∧
    s.recordIsolation.controller = s.controller ∧ s.recordIsolation.responder = s.responder ∧
    s.recordIsolation.counters = s.counters ∧ s.recordIsolation.due = s.due ∧ s.recordIsolation.now = s.now ∧
    s.recordIsolation.freeCount = s.freeCount := by
  unfold State.recordIsolation
  try dsimp only
  simp

@[simp] theorem State.endIsolation_frame (s : State) :
    s.endIsolation.pending = s.pending ∧ s.endIsolation.resetHeld = s.resetHeld ∧ s.endIsolation.loader = s.loader ∧
    s.endIsolation.config = s.config ∧ s.endIsolation.time = s.time ∧ s.endIsolation.table = s.table ∧
    s.endIsolation.pulse = s.pulse ∧ s.endIsolation.trigger = s.trigger ∧ s.endIsolation.origins = s.origins ∧
    s.endIsolation.publications = s.publications ∧ s.endIsolation.ring = s.ring ∧ s.endIsolation.roster = s.roster ∧
    s.endIsolation.controller = s.controller ∧ s.endIsolation.responder = s.responder ∧
    s.endIsolation.counters = s.counters ∧ s.endIsolation.due = s.due ∧ s.endIsolation.now = s.now ∧
    s.endIsolation.freeCount = s.freeCount := by
  unfold State.endIsolation
  try dsimp only
  simp

@[simp] theorem State.completePass_frame (s : State) :
    s.completePass.pending = s.pending ∧ s.completePass.resetHeld = s.resetHeld ∧ s.completePass.loader = s.loader ∧
    s.completePass.config = s.config ∧ s.completePass.time = s.time ∧ s.completePass.table = s.table ∧
    s.completePass.trigger = s.trigger ∧ s.completePass.origins = s.origins ∧
    s.completePass.publications = s.publications ∧ s.completePass.ring = s.ring ∧ s.completePass.roster = s.roster ∧
    s.completePass.controller = s.controller ∧ s.completePass.responder = s.responder ∧ s.completePass.due = s.due ∧
    s.completePass.now = s.now ∧ s.completePass.freeCount = s.freeCount := by
  unfold State.completePass
  try dsimp only
  (repeat' split) <;> simp

@[simp] theorem State.tickPass_frame (s : State) :
    s.tickPass.pending = s.pending ∧ s.tickPass.resetHeld = s.resetHeld ∧ s.tickPass.loader = s.loader ∧
    s.tickPass.config = s.config ∧ s.tickPass.time = s.time ∧ s.tickPass.table = s.table ∧
    s.tickPass.pulse = s.pulse ∧ s.tickPass.trigger = s.trigger ∧ s.tickPass.origins = s.origins ∧
    s.tickPass.publications = s.publications ∧ s.tickPass.ring = s.ring ∧ s.tickPass.roster = s.roster ∧
    s.tickPass.controller = s.controller ∧ s.tickPass.responder = s.responder ∧ s.tickPass.counters = s.counters ∧
    s.tickPass.due = s.due ∧ s.tickPass.now = s.now := by
  unfold State.tickPass
  try dsimp only
  (repeat' split) <;> simp

@[simp] theorem State.createPublication_frame (s : State) (t : Nat) (k : PubKind) (r l : Bool) (p : List Byte) :
    (s.createPublication t k r l p).pending = s.pending ∧ (s.createPublication t k r l p).resetHeld = s.resetHeld ∧
    (s.createPublication t k r l p).loader = s.loader ∧ (s.createPublication t k r l p).config = s.config ∧
    (s.createPublication t k r l p).time = s.time ∧ (s.createPublication t k r l p).table = s.table ∧
    (s.createPublication t k r l p).composer = s.composer ∧ (s.createPublication t k r l p).pulse = s.pulse ∧
    (s.createPublication t k r l p).trigger = s.trigger ∧ (s.createPublication t k r l p).origins = s.origins ∧
    (s.createPublication t k r l p).roster = s.roster ∧ (s.createPublication t k r l p).controller = s.controller ∧
    (s.createPublication t k r l p).responder = s.responder ∧
    (s.createPublication t k r l p).counters = s.counters ∧ (s.createPublication t k r l p).due = s.due ∧
    (s.createPublication t k r l p).now = s.now := by
  unfold State.createPublication
  try dsimp only
  simp

@[simp] theorem State.countPlaced_frame (s : State) (e : Publication) :
    (s.countPlaced e).pending = s.pending ∧ (s.countPlaced e).resetHeld = s.resetHeld ∧
    (s.countPlaced e).loader = s.loader ∧ (s.countPlaced e).config = s.config ∧ (s.countPlaced e).time = s.time ∧
    (s.countPlaced e).table = s.table ∧ (s.countPlaced e).composer = s.composer ∧
    (s.countPlaced e).pulse = s.pulse ∧ (s.countPlaced e).trigger = s.trigger ∧
    (s.countPlaced e).origins = s.origins ∧ (s.countPlaced e).publications = s.publications ∧
    (s.countPlaced e).ring = s.ring ∧ (s.countPlaced e).roster = s.roster ∧
    (s.countPlaced e).controller = s.controller ∧ (s.countPlaced e).responder = s.responder ∧
    (s.countPlaced e).due = s.due ∧ (s.countPlaced e).now = s.now ∧ (s.countPlaced e).freeCount = s.freeCount := by
  unfold State.countPlaced
  try dsimp only
  (repeat' split) <;> simp

@[simp] theorem State.placePublications_frame (s : State) :
    s.placePublications.pending = s.pending ∧ s.placePublications.resetHeld = s.resetHeld ∧
    s.placePublications.loader = s.loader ∧ s.placePublications.config = s.config ∧
    s.placePublications.time = s.time ∧ s.placePublications.table = s.table ∧
    s.placePublications.composer = s.composer ∧ s.placePublications.pulse = s.pulse ∧
    s.placePublications.trigger = s.trigger ∧ s.placePublications.origins = s.origins ∧
    s.placePublications.roster = s.roster ∧ s.placePublications.controller = s.controller ∧
    s.placePublications.responder = s.responder ∧ s.placePublications.due = s.due ∧
    s.placePublications.now = s.now ∧ s.placePublications.freeCount = s.freeCount := by
  unfold State.placePublications
  have h_pending := foldl_keeps State.pending State.countPlaced (by intro s a; simp)
  have h_resetHeld := foldl_keeps State.resetHeld State.countPlaced (by intro s a; simp)
  have h_loader := foldl_keeps State.loader State.countPlaced (by intro s a; simp)
  have h_config := foldl_keeps State.config State.countPlaced (by intro s a; simp)
  have h_time := foldl_keeps State.time State.countPlaced (by intro s a; simp)
  have h_table := foldl_keeps State.table State.countPlaced (by intro s a; simp)
  have h_composer := foldl_keeps State.composer State.countPlaced (by intro s a; simp)
  have h_pulse := foldl_keeps State.pulse State.countPlaced (by intro s a; simp)
  have h_trigger := foldl_keeps State.trigger State.countPlaced (by intro s a; simp)
  have h_origins := foldl_keeps State.origins State.countPlaced (by intro s a; simp)
  have h_roster := foldl_keeps State.roster State.countPlaced (by intro s a; simp)
  have h_controller := foldl_keeps State.controller State.countPlaced (by intro s a; simp)
  have h_responder := foldl_keeps State.responder State.countPlaced (by intro s a; simp)
  have h_due := foldl_keeps State.due State.countPlaced (by intro s a; simp)
  have h_now := foldl_keeps State.now State.countPlaced (by intro s a; simp)
  have h_freeCount := foldl_keeps State.freeCount State.countPlaced (by intro s a; simp)
  try dsimp only
  (repeat' split) <;> simp [h_pending, h_resetHeld, h_loader, h_config, h_time, h_table, h_composer, h_pulse, h_trigger, h_origins, h_roster, h_controller, h_responder, h_due, h_now, h_freeCount]

@[simp] theorem State.recordSent_frame (s : State) (k : OwnKind) (q : Byte) :
    (s.recordSent k q).pending = s.pending ∧ (s.recordSent k q).resetHeld = s.resetHeld ∧
    (s.recordSent k q).loader = s.loader ∧ (s.recordSent k q).config = s.config ∧ (s.recordSent k q).time = s.time ∧
    (s.recordSent k q).table = s.table ∧ (s.recordSent k q).composer = s.composer ∧
    (s.recordSent k q).pulse = s.pulse ∧ (s.recordSent k q).trigger = s.trigger ∧
    (s.recordSent k q).origins = s.origins ∧ (s.recordSent k q).ring = s.ring ∧
    (s.recordSent k q).roster = s.roster ∧ (s.recordSent k q).controller = s.controller ∧
    (s.recordSent k q).responder = s.responder ∧ (s.recordSent k q).counters = s.counters ∧
    (s.recordSent k q).due = s.due ∧ (s.recordSent k q).now = s.now ∧
    (s.recordSent k q).freeCount = s.freeCount := by
  unfold State.recordSent
  try dsimp only
  simp

@[simp] theorem State.markForJoin_frame (s : State) (base n : Nat) :
    (s.markForJoin base n).pending = s.pending ∧ (s.markForJoin base n).resetHeld = s.resetHeld ∧
    (s.markForJoin base n).loader = s.loader ∧ (s.markForJoin base n).config = s.config ∧
    (s.markForJoin base n).time = s.time ∧ (s.markForJoin base n).table = s.table ∧
    (s.markForJoin base n).composer = s.composer ∧ (s.markForJoin base n).pulse = s.pulse ∧
    (s.markForJoin base n).trigger = s.trigger ∧ (s.markForJoin base n).publications = s.publications ∧
    (s.markForJoin base n).ring = s.ring ∧ (s.markForJoin base n).roster = s.roster ∧
    (s.markForJoin base n).controller = s.controller ∧ (s.markForJoin base n).responder = s.responder ∧
    (s.markForJoin base n).counters = s.counters ∧ (s.markForJoin base n).due = s.due ∧
    (s.markForJoin base n).now = s.now ∧ (s.markForJoin base n).freeCount = s.freeCount := by
  unfold State.markForJoin
  try dsimp only
  simp

@[simp] theorem State.markAll_frame (s : State) :
    s.markAll.pending = s.pending ∧ s.markAll.resetHeld = s.resetHeld ∧ s.markAll.loader = s.loader ∧
    s.markAll.config = s.config ∧ s.markAll.time = s.time ∧ s.markAll.table = s.table ∧
    s.markAll.composer = s.composer ∧ s.markAll.pulse = s.pulse ∧ s.markAll.trigger = s.trigger ∧
    s.markAll.publications = s.publications ∧ s.markAll.ring = s.ring ∧ s.markAll.roster = s.roster ∧
    s.markAll.controller = s.controller ∧ s.markAll.responder = s.responder ∧ s.markAll.counters = s.counters ∧
    s.markAll.due = s.due ∧ s.markAll.now = s.now ∧ s.markAll.freeCount = s.freeCount := by
  unfold State.markAll
  try dsimp only
  simp

@[simp] theorem State.feedSlot_frame (s : State) (t : Nat) :
    (s.feedSlot t).pending = s.pending ∧ (s.feedSlot t).resetHeld = s.resetHeld ∧ (s.feedSlot t).loader = s.loader ∧
    (s.feedSlot t).config = s.config ∧ (s.feedSlot t).time = s.time ∧ (s.feedSlot t).table = s.table ∧
    (s.feedSlot t).composer = s.composer ∧ (s.feedSlot t).pulse = s.pulse ∧ (s.feedSlot t).trigger = s.trigger ∧
    (s.feedSlot t).roster = s.roster ∧ (s.feedSlot t).controller = s.controller ∧
    (s.feedSlot t).responder = s.responder ∧ (s.feedSlot t).counters = s.counters ∧ (s.feedSlot t).due = s.due ∧
    (s.feedSlot t).now = s.now := by
  unfold State.feedSlot
  try dsimp only
  (repeat' split) <;> simp

@[simp] theorem State.feedReplays_frame (s : State) :
    s.feedReplays.pending = s.pending ∧ s.feedReplays.resetHeld = s.resetHeld ∧ s.feedReplays.loader = s.loader ∧
    s.feedReplays.config = s.config ∧ s.feedReplays.time = s.time ∧ s.feedReplays.table = s.table ∧
    s.feedReplays.composer = s.composer ∧ s.feedReplays.pulse = s.pulse ∧ s.feedReplays.trigger = s.trigger ∧
    s.feedReplays.roster = s.roster ∧ s.feedReplays.controller = s.controller ∧
    s.feedReplays.responder = s.responder ∧ s.feedReplays.due = s.due ∧ s.feedReplays.now = s.now := by
  unfold State.feedReplays
  have h_pending := foldl_keeps State.pending State.feedSlot (by intro s a; simp)
  have h_resetHeld := foldl_keeps State.resetHeld State.feedSlot (by intro s a; simp)
  have h_loader := foldl_keeps State.loader State.feedSlot (by intro s a; simp)
  have h_config := foldl_keeps State.config State.feedSlot (by intro s a; simp)
  have h_time := foldl_keeps State.time State.feedSlot (by intro s a; simp)
  have h_table := foldl_keeps State.table State.feedSlot (by intro s a; simp)
  have h_composer := foldl_keeps State.composer State.feedSlot (by intro s a; simp)
  have h_pulse := foldl_keeps State.pulse State.feedSlot (by intro s a; simp)
  have h_trigger := foldl_keeps State.trigger State.feedSlot (by intro s a; simp)
  have h_roster := foldl_keeps State.roster State.feedSlot (by intro s a; simp)
  have h_controller := foldl_keeps State.controller State.feedSlot (by intro s a; simp)
  have h_responder := foldl_keeps State.responder State.feedSlot (by intro s a; simp)
  have h_due := foldl_keeps State.due State.feedSlot (by intro s a; simp)
  have h_now := foldl_keeps State.now State.feedSlot (by intro s a; simp)
  try dsimp only
  simp [h_pending, h_resetHeld, h_loader, h_config, h_time, h_table, h_composer, h_pulse, h_trigger, h_roster, h_controller, h_responder, h_due, h_now]

@[simp] theorem State.publishAction_frame (s : State) (t : Nat) (k : PubKind) (a : Admission) (p : List Byte) :
    (s.publishAction t k a p).pending = s.pending ∧ (s.publishAction t k a p).resetHeld = s.resetHeld ∧
    (s.publishAction t k a p).loader = s.loader ∧ (s.publishAction t k a p).config = s.config ∧
    (s.publishAction t k a p).time = s.time ∧ (s.publishAction t k a p).table = s.table ∧
    (s.publishAction t k a p).composer = s.composer ∧ (s.publishAction t k a p).pulse = s.pulse ∧
    (s.publishAction t k a p).trigger = s.trigger ∧ (s.publishAction t k a p).roster = s.roster ∧
    (s.publishAction t k a p).controller = s.controller ∧ (s.publishAction t k a p).responder = s.responder ∧
    (s.publishAction t k a p).due = s.due ∧ (s.publishAction t k a p).now = s.now := by
  unfold State.publishAction
  try dsimp only
  (repeat' split) <;> simp

@[simp] theorem State.startTemplate_frame (s : State) (t : Nat) (tpl : Template) (n : StepNo) :
    (s.startTemplate t tpl n).pending = s.pending ∧ (s.startTemplate t tpl n).resetHeld = s.resetHeld ∧
    (s.startTemplate t tpl n).loader = s.loader ∧ (s.startTemplate t tpl n).config = s.config ∧
    (s.startTemplate t tpl n).time = s.time ∧ (s.startTemplate t tpl n).composer = s.composer ∧
    (s.startTemplate t tpl n).pulse = s.pulse ∧ (s.startTemplate t tpl n).trigger = s.trigger ∧
    (s.startTemplate t tpl n).roster = s.roster ∧ (s.startTemplate t tpl n).controller = s.controller ∧
    (s.startTemplate t tpl n).due = s.due ∧ (s.startTemplate t tpl n).now = s.now := by
  unfold State.startTemplate
  try dsimp only
  simp

@[simp] theorem State.releaseTemplate_frame (s : State) (t : Nat) (tpl : Template) (n : StepNo) :
    (s.releaseTemplate t tpl n).pending = s.pending ∧ (s.releaseTemplate t tpl n).resetHeld = s.resetHeld ∧
    (s.releaseTemplate t tpl n).loader = s.loader ∧ (s.releaseTemplate t tpl n).config = s.config ∧
    (s.releaseTemplate t tpl n).time = s.time ∧ (s.releaseTemplate t tpl n).composer = s.composer ∧
    (s.releaseTemplate t tpl n).pulse = s.pulse ∧ (s.releaseTemplate t tpl n).trigger = s.trigger ∧
    (s.releaseTemplate t tpl n).roster = s.roster ∧ (s.releaseTemplate t tpl n).controller = s.controller ∧
    (s.releaseTemplate t tpl n).due = s.due ∧ (s.releaseTemplate t tpl n).now = s.now := by
  unfold State.releaseTemplate
  try dsimp only
  simp

@[simp] theorem State.takeAction_frame (s : State) (a : TriggerAction) (t : Nat) (c : Capture) :
    (s.takeAction a t c).pending = s.pending ∧ (s.takeAction a t c).resetHeld = s.resetHeld ∧
    (s.takeAction a t c).loader = s.loader ∧ (s.takeAction a t c).config = s.config ∧
    (s.takeAction a t c).time = s.time ∧ (s.takeAction a t c).composer = s.composer ∧
    (s.takeAction a t c).pulse = s.pulse ∧ (s.takeAction a t c).trigger = s.trigger ∧
    (s.takeAction a t c).roster = s.roster ∧ (s.takeAction a t c).controller = s.controller ∧
    (s.takeAction a t c).due = s.due ∧ (s.takeAction a t c).now = s.now := by
  unfold State.takeAction
  try dsimp only
  (repeat' split) <;> simp

@[simp] theorem State.publicationReturn_frame (s : State) (m : Message) :
    (s.publicationReturn m).pending = s.pending ∧ (s.publicationReturn m).resetHeld = s.resetHeld ∧
    (s.publicationReturn m).loader = s.loader ∧ (s.publicationReturn m).config = s.config ∧
    (s.publicationReturn m).time = s.time ∧ (s.publicationReturn m).table = s.table ∧
    (s.publicationReturn m).composer = s.composer ∧ (s.publicationReturn m).pulse = s.pulse ∧
    (s.publicationReturn m).trigger = s.trigger ∧ (s.publicationReturn m).roster = s.roster ∧
    (s.publicationReturn m).controller = s.controller ∧ (s.publicationReturn m).responder = s.responder ∧
    (s.publicationReturn m).due = s.due ∧ (s.publicationReturn m).now = s.now := by
  unfold State.publicationReturn
  try dsimp only
  (repeat' split) <;> simp

@[simp] theorem State.recordFailed_frame (s : State) (e : Publication) :
    (s.recordFailed e).pending = s.pending ∧ (s.recordFailed e).resetHeld = s.resetHeld ∧
    (s.recordFailed e).loader = s.loader ∧ (s.recordFailed e).config = s.config ∧ (s.recordFailed e).time = s.time ∧
    (s.recordFailed e).table = s.table ∧ (s.recordFailed e).composer = s.composer ∧
    (s.recordFailed e).pulse = s.pulse ∧ (s.recordFailed e).trigger = s.trigger ∧
    (s.recordFailed e).publications = s.publications ∧ (s.recordFailed e).ring = s.ring ∧
    (s.recordFailed e).roster = s.roster ∧ (s.recordFailed e).controller = s.controller ∧
    (s.recordFailed e).responder = s.responder ∧ (s.recordFailed e).due = s.due ∧ (s.recordFailed e).now = s.now ∧
    (s.recordFailed e).freeCount = s.freeCount := by
  unfold State.recordFailed
  try dsimp only
  simp

@[simp] theorem State.timeOutPublications_frame (s : State) :
    s.timeOutPublications.pending = s.pending ∧ s.timeOutPublications.resetHeld = s.resetHeld ∧
    s.timeOutPublications.loader = s.loader ∧ s.timeOutPublications.config = s.config ∧
    s.timeOutPublications.time = s.time ∧ s.timeOutPublications.table = s.table ∧
    s.timeOutPublications.composer = s.composer ∧ s.timeOutPublications.pulse = s.pulse ∧
    s.timeOutPublications.trigger = s.trigger ∧ s.timeOutPublications.roster = s.roster ∧
    s.timeOutPublications.controller = s.controller ∧ s.timeOutPublications.responder = s.responder ∧
    s.timeOutPublications.due = s.due ∧ s.timeOutPublications.now = s.now ∧
    s.timeOutPublications.freeCount = s.freeCount := by
  unfold State.timeOutPublications
  have h_pending := foldl_keeps State.pending State.recordFailed (by intro s a; simp)
  have h_resetHeld := foldl_keeps State.resetHeld State.recordFailed (by intro s a; simp)
  have h_loader := foldl_keeps State.loader State.recordFailed (by intro s a; simp)
  have h_config := foldl_keeps State.config State.recordFailed (by intro s a; simp)
  have h_time := foldl_keeps State.time State.recordFailed (by intro s a; simp)
  have h_table := foldl_keeps State.table State.recordFailed (by intro s a; simp)
  have h_composer := foldl_keeps State.composer State.recordFailed (by intro s a; simp)
  have h_pulse := foldl_keeps State.pulse State.recordFailed (by intro s a; simp)
  have h_trigger := foldl_keeps State.trigger State.recordFailed (by intro s a; simp)
  have h_roster := foldl_keeps State.roster State.recordFailed (by intro s a; simp)
  have h_controller := foldl_keeps State.controller State.recordFailed (by intro s a; simp)
  have h_responder := foldl_keeps State.responder State.recordFailed (by intro s a; simp)
  have h_due := foldl_keeps State.due State.recordFailed (by intro s a; simp)
  have h_now := foldl_keeps State.now State.recordFailed (by intro s a; simp)
  have h_freeCount := foldl_keeps State.freeCount State.recordFailed (by intro s a; simp)
  try dsimp only
  simp [h_pending, h_resetHeld, h_loader, h_config, h_time, h_table, h_composer, h_pulse, h_trigger, h_roster, h_controller, h_responder, h_due, h_now, h_freeCount]

@[simp] theorem State.tickPulse_frame (s : State) :
    s.tickPulse.pending = s.pending ∧ s.tickPulse.resetHeld = s.resetHeld ∧ s.tickPulse.loader = s.loader ∧
    s.tickPulse.config = s.config ∧ s.tickPulse.time = s.time ∧ s.tickPulse.table = s.table ∧
    s.tickPulse.composer = s.composer ∧ s.tickPulse.trigger = s.trigger ∧ s.tickPulse.origins = s.origins ∧
    s.tickPulse.publications = s.publications ∧ s.tickPulse.ring = s.ring ∧ s.tickPulse.roster = s.roster ∧
    s.tickPulse.controller = s.controller ∧ s.tickPulse.responder = s.responder ∧
    s.tickPulse.counters = s.counters ∧ s.tickPulse.due = s.due ∧ s.tickPulse.now = s.now ∧
    s.tickPulse.freeCount = s.freeCount := by
  unfold State.tickPulse
  try dsimp only
  (repeat' split) <;> simp

@[simp] theorem State.releaseOutputs_frame (s : State) :
    s.releaseOutputs.pending = s.pending ∧ s.releaseOutputs.resetHeld = s.resetHeld ∧
    s.releaseOutputs.loader = s.loader ∧ s.releaseOutputs.config = s.config ∧ s.releaseOutputs.time = s.time ∧
    s.releaseOutputs.table = s.table ∧ s.releaseOutputs.composer = s.composer ∧
    s.releaseOutputs.trigger = s.trigger ∧ s.releaseOutputs.origins = s.origins ∧
    s.releaseOutputs.publications = s.publications ∧ s.releaseOutputs.ring = s.ring ∧
    s.releaseOutputs.roster = s.roster ∧ s.releaseOutputs.controller = s.controller ∧
    s.releaseOutputs.responder = s.responder ∧ s.releaseOutputs.counters = s.counters ∧
    s.releaseOutputs.due = s.due ∧ s.releaseOutputs.now = s.now ∧ s.releaseOutputs.freeCount = s.freeCount := by
  unfold State.releaseOutputs
  try dsimp only
  simp

@[simp] theorem State.placeJoin_frame (s : State) :
    s.placeJoin.pending = s.pending ∧ s.placeJoin.resetHeld = s.resetHeld ∧ s.placeJoin.loader = s.loader ∧
    s.placeJoin.config = s.config ∧ s.placeJoin.time = s.time ∧ s.placeJoin.table = s.table ∧
    s.placeJoin.composer = s.composer ∧ s.placeJoin.pulse = s.pulse ∧ s.placeJoin.trigger = s.trigger ∧
    s.placeJoin.origins = s.origins ∧ s.placeJoin.publications = s.publications ∧ s.placeJoin.roster = s.roster ∧
    s.placeJoin.responder = s.responder ∧ s.placeJoin.due = s.due ∧ s.placeJoin.now = s.now := by
  unfold State.placeJoin
  try dsimp only
  (repeat' split) <;> simp

@[simp] theorem State.enterAdmission_frame (s : State) :
    s.enterAdmission.pending = s.pending ∧ s.enterAdmission.resetHeld = s.resetHeld ∧
    s.enterAdmission.loader = s.loader ∧ s.enterAdmission.config = s.config ∧ s.enterAdmission.time = s.time ∧
    s.enterAdmission.table = s.table ∧ s.enterAdmission.composer = s.composer ∧ s.enterAdmission.pulse = s.pulse ∧
    s.enterAdmission.trigger = s.trigger ∧ s.enterAdmission.origins = s.origins ∧
    s.enterAdmission.publications = s.publications ∧ s.enterAdmission.roster = s.roster ∧
    s.enterAdmission.responder = s.responder ∧ s.enterAdmission.due = s.due ∧ s.enterAdmission.now = s.now := by
  unfold State.enterAdmission
  try dsimp only
  simp

@[simp] theorem State.reportEntries_frame (s : State) :
    s.reportEntries.pending = s.pending ∧ s.reportEntries.resetHeld = s.resetHeld ∧
    s.reportEntries.loader = s.loader ∧ s.reportEntries.config = s.config ∧ s.reportEntries.time = s.time ∧
    s.reportEntries.table = s.table ∧ s.reportEntries.composer = s.composer ∧ s.reportEntries.pulse = s.pulse ∧
    s.reportEntries.trigger = s.trigger ∧ s.reportEntries.origins = s.origins ∧
    s.reportEntries.publications = s.publications ∧ s.reportEntries.ring = s.ring ∧
    s.reportEntries.roster = s.roster ∧ s.reportEntries.controller = s.controller ∧
    s.reportEntries.responder = s.responder ∧ s.reportEntries.counters = s.counters ∧ s.reportEntries.now = s.now ∧
    s.reportEntries.freeCount = s.freeCount := by
  unfold State.reportEntries
  try dsimp only
  simp

@[simp] theorem State.enterRing_frame (s : State) :
    s.enterRing.pending = s.pending ∧ s.enterRing.resetHeld = s.resetHeld ∧ s.enterRing.loader = s.loader ∧
    s.enterRing.config = s.config ∧ s.enterRing.time = s.time ∧ s.enterRing.table = s.table ∧
    s.enterRing.composer = s.composer ∧ s.enterRing.trigger = s.trigger ∧
    s.enterRing.publications = s.publications ∧ s.enterRing.ring = s.ring ∧ s.enterRing.roster = s.roster ∧
    s.enterRing.responder = s.responder ∧ s.enterRing.counters = s.counters ∧ s.enterRing.now = s.now ∧
    s.enterRing.freeCount = s.freeCount := by
  unfold State.enterRing
  try dsimp only
  (repeat' split) <;> simp

@[simp] theorem State.enterIsolated_frame (s : State) :
    s.enterIsolated.pending = s.pending ∧ s.enterIsolated.resetHeld = s.resetHeld ∧
    s.enterIsolated.loader = s.loader ∧ s.enterIsolated.config = s.config ∧ s.enterIsolated.time = s.time ∧
    s.enterIsolated.table = s.table ∧ s.enterIsolated.trigger = s.trigger ∧ s.enterIsolated.origins = s.origins ∧
    s.enterIsolated.publications = s.publications ∧ s.enterIsolated.ring = s.ring ∧
    s.enterIsolated.roster = s.roster ∧ s.enterIsolated.responder = s.responder ∧ s.enterIsolated.now = s.now ∧
    s.enterIsolated.freeCount = s.freeCount := by
  unfold State.enterIsolated
  try dsimp only
  simp

@[simp] theorem State.readmit_frame (s : State) :
    s.readmit.pending = s.pending ∧ s.readmit.resetHeld = s.resetHeld ∧ s.readmit.loader = s.loader ∧
    s.readmit.config = s.config ∧ s.readmit.time = s.time ∧ s.readmit.table = s.table ∧ s.readmit.pulse = s.pulse ∧
    s.readmit.trigger = s.trigger ∧ s.readmit.origins = s.origins ∧ s.readmit.publications = s.publications ∧
    s.readmit.roster = s.roster ∧ s.readmit.responder = s.responder ∧ s.readmit.due = s.due ∧
    s.readmit.now = s.now := by
  unfold State.readmit
  try dsimp only
  simp

@[simp] theorem State.enterClash_frame (s : State) :
    s.enterClash.pending = s.pending ∧ s.enterClash.resetHeld = s.resetHeld ∧ s.enterClash.loader = s.loader ∧
    s.enterClash.config = s.config ∧ s.enterClash.time = s.time ∧ s.enterClash.table = s.table ∧
    s.enterClash.pulse = s.pulse ∧ s.enterClash.trigger = s.trigger ∧ s.enterClash.origins = s.origins ∧
    s.enterClash.publications = s.publications ∧ s.enterClash.ring = s.ring ∧ s.enterClash.roster = s.roster ∧
    s.enterClash.responder = s.responder ∧ s.enterClash.counters = s.counters ∧ s.enterClash.due = s.due ∧
    s.enterClash.now = s.now ∧ s.enterClash.freeCount = s.freeCount := by
  unfold State.enterClash
  try dsimp only
  (repeat' split) <;> simp

@[simp] theorem State.endListen_frame (s : State) :
    s.endListen.pending = s.pending ∧ s.endListen.resetHeld = s.resetHeld ∧ s.endListen.loader = s.loader ∧
    s.endListen.config = s.config ∧ s.endListen.table = s.table ∧ s.endListen.composer = s.composer ∧
    s.endListen.pulse = s.pulse ∧ s.endListen.trigger = s.trigger ∧ s.endListen.origins = s.origins ∧
    s.endListen.publications = s.publications ∧ s.endListen.roster = s.roster ∧
    s.endListen.responder = s.responder ∧ s.endListen.due = s.due ∧ s.endListen.now = s.now := by
  unfold State.endListen
  try dsimp only
  simp

@[simp] theorem State.startWatch_frame (s : State) :
    s.startWatch.pending = s.pending ∧ s.startWatch.resetHeld = s.resetHeld ∧ s.startWatch.loader = s.loader ∧
    s.startWatch.config = s.config ∧ s.startWatch.time = s.time ∧ s.startWatch.table = s.table ∧
    s.startWatch.composer = s.composer ∧ s.startWatch.pulse = s.pulse ∧ s.startWatch.trigger = s.trigger ∧
    s.startWatch.origins = s.origins ∧ s.startWatch.publications = s.publications ∧ s.startWatch.ring = s.ring ∧
    s.startWatch.roster = s.roster ∧ s.startWatch.responder = s.responder ∧ s.startWatch.counters = s.counters ∧
    s.startWatch.due = s.due ∧ s.startWatch.now = s.now ∧ s.startWatch.freeCount = s.freeCount := by
  unfold State.startWatch
  try dsimp only
  (repeat' split) <;> simp

@[simp] theorem State.monitorReturn_frame (s : State) :
    s.monitorReturn.pending = s.pending ∧ s.monitorReturn.resetHeld = s.resetHeld ∧
    s.monitorReturn.loader = s.loader ∧ s.monitorReturn.config = s.config ∧ s.monitorReturn.time = s.time ∧
    s.monitorReturn.table = s.table ∧ s.monitorReturn.composer = s.composer ∧ s.monitorReturn.pulse = s.pulse ∧
    s.monitorReturn.trigger = s.trigger ∧ s.monitorReturn.origins = s.origins ∧
    s.monitorReturn.publications = s.publications ∧ s.monitorReturn.ring = s.ring ∧
    s.monitorReturn.roster = s.roster ∧ s.monitorReturn.responder = s.responder ∧
    s.monitorReturn.counters = s.counters ∧ s.monitorReturn.due = s.due ∧ s.monitorReturn.now = s.now ∧
    s.monitorReturn.freeCount = s.freeCount := by
  unfold State.monitorReturn
  try dsimp only
  (repeat' split) <;> simp

@[simp] theorem State.expireWatch_frame (s : State) :
    s.expireWatch.pending = s.pending ∧ s.expireWatch.resetHeld = s.resetHeld ∧ s.expireWatch.loader = s.loader ∧
    s.expireWatch.config = s.config ∧ s.expireWatch.time = s.time ∧ s.expireWatch.table = s.table ∧
    s.expireWatch.trigger = s.trigger ∧ s.expireWatch.origins = s.origins ∧
    s.expireWatch.publications = s.publications ∧ s.expireWatch.ring = s.ring ∧ s.expireWatch.roster = s.roster ∧
    s.expireWatch.responder = s.responder ∧ s.expireWatch.now = s.now ∧ s.expireWatch.freeCount = s.freeCount := by
  unfold State.expireWatch
  try dsimp only
  (repeat' split) <;> simp

@[simp] theorem State.recordJoinSent_frame (s : State) (k : OwnKind) (q : Byte) :
    (s.recordJoinSent k q).pending = s.pending ∧ (s.recordJoinSent k q).resetHeld = s.resetHeld ∧
    (s.recordJoinSent k q).loader = s.loader ∧ (s.recordJoinSent k q).config = s.config ∧
    (s.recordJoinSent k q).time = s.time ∧ (s.recordJoinSent k q).table = s.table ∧
    (s.recordJoinSent k q).composer = s.composer ∧ (s.recordJoinSent k q).pulse = s.pulse ∧
    (s.recordJoinSent k q).trigger = s.trigger ∧ (s.recordJoinSent k q).origins = s.origins ∧
    (s.recordJoinSent k q).publications = s.publications ∧ (s.recordJoinSent k q).ring = s.ring ∧
    (s.recordJoinSent k q).roster = s.roster ∧ (s.recordJoinSent k q).responder = s.responder ∧
    (s.recordJoinSent k q).counters = s.counters ∧ (s.recordJoinSent k q).due = s.due ∧
    (s.recordJoinSent k q).now = s.now ∧ (s.recordJoinSent k q).freeCount = s.freeCount := by
  unfold State.recordJoinSent
  try dsimp only
  (repeat' split) <;> simp

@[simp] theorem State.judgeJoin_frame (s : State) :
    s.judgeJoin.pending = s.pending ∧ s.judgeJoin.resetHeld = s.resetHeld ∧ s.judgeJoin.loader = s.loader ∧
    s.judgeJoin.config = s.config ∧ s.judgeJoin.time = s.time ∧ s.judgeJoin.table = s.table ∧
    s.judgeJoin.trigger = s.trigger ∧ s.judgeJoin.origins = s.origins ∧ s.judgeJoin.publications = s.publications ∧
    s.judgeJoin.roster = s.roster ∧ s.judgeJoin.responder = s.responder ∧ s.judgeJoin.now = s.now := by
  unfold State.judgeJoin
  try dsimp only
  (repeat' split) <;> simp

@[simp] theorem State.placeWaitingJoin_frame (s : State) :
    s.placeWaitingJoin.pending = s.pending ∧ s.placeWaitingJoin.resetHeld = s.resetHeld ∧
    s.placeWaitingJoin.loader = s.loader ∧ s.placeWaitingJoin.config = s.config ∧ s.placeWaitingJoin.time = s.time ∧
    s.placeWaitingJoin.table = s.table ∧ s.placeWaitingJoin.composer = s.composer ∧
    s.placeWaitingJoin.pulse = s.pulse ∧ s.placeWaitingJoin.trigger = s.trigger ∧
    s.placeWaitingJoin.origins = s.origins ∧ s.placeWaitingJoin.publications = s.publications ∧
    s.placeWaitingJoin.roster = s.roster ∧ s.placeWaitingJoin.responder = s.responder ∧
    s.placeWaitingJoin.due = s.due ∧ s.placeWaitingJoin.now = s.now := by
  unfold State.placeWaitingJoin
  try dsimp only
  (repeat' split) <;> simp

@[simp] theorem State.controllerReturn_frame (s : State) (q : Byte) :
    (s.controllerReturn q).pending = s.pending ∧ (s.controllerReturn q).resetHeld = s.resetHeld ∧
    (s.controllerReturn q).loader = s.loader ∧ (s.controllerReturn q).config = s.config ∧
    (s.controllerReturn q).time = s.time ∧ (s.controllerReturn q).table = s.table ∧
    (s.controllerReturn q).trigger = s.trigger ∧ (s.controllerReturn q).publications = s.publications ∧
    (s.controllerReturn q).roster = s.roster ∧ (s.controllerReturn q).responder = s.responder ∧
    (s.controllerReturn q).now = s.now := by
  unfold State.controllerReturn
  try dsimp only
  (repeat' split) <;> simp

@[simp] theorem State.strayEcho_frame (s : State) :
    s.strayEcho.pending = s.pending ∧ s.strayEcho.resetHeld = s.resetHeld ∧ s.strayEcho.loader = s.loader ∧
    s.strayEcho.config = s.config ∧ s.strayEcho.time = s.time ∧ s.strayEcho.table = s.table ∧
    s.strayEcho.pulse = s.pulse ∧ s.strayEcho.trigger = s.trigger ∧ s.strayEcho.origins = s.origins ∧
    s.strayEcho.publications = s.publications ∧ s.strayEcho.ring = s.ring ∧ s.strayEcho.roster = s.roster ∧
    s.strayEcho.responder = s.responder ∧ s.strayEcho.due = s.due ∧ s.strayEcho.now = s.now ∧
    s.strayEcho.freeCount = s.freeCount := by
  unfold State.strayEcho
  try dsimp only
  (repeat' split) <;> simp

@[simp] theorem State.expireStrayAges_frame (s : State) :
    s.expireStrayAges.pending = s.pending ∧ s.expireStrayAges.resetHeld = s.resetHeld ∧
    s.expireStrayAges.loader = s.loader ∧ s.expireStrayAges.config = s.config ∧ s.expireStrayAges.time = s.time ∧
    s.expireStrayAges.table = s.table ∧ s.expireStrayAges.composer = s.composer ∧
    s.expireStrayAges.pulse = s.pulse ∧ s.expireStrayAges.trigger = s.trigger ∧
    s.expireStrayAges.origins = s.origins ∧ s.expireStrayAges.publications = s.publications ∧
    s.expireStrayAges.ring = s.ring ∧ s.expireStrayAges.roster = s.roster ∧
    s.expireStrayAges.responder = s.responder ∧ s.expireStrayAges.counters = s.counters ∧
    s.expireStrayAges.due = s.due ∧ s.expireStrayAges.now = s.now ∧ s.expireStrayAges.freeCount = s.freeCount := by
  unfold State.expireStrayAges
  try dsimp only
  simp

@[simp] theorem State.doRestart_frame (s : State) :
    s.doRestart.pending = s.pending ∧ s.doRestart.resetHeld = s.resetHeld ∧ s.doRestart.loader = s.loader ∧
    s.doRestart.config = s.config ∧ s.doRestart.trigger = s.trigger ∧ s.doRestart.now = s.now ∧
    s.doRestart.freeCount = s.freeCount := by
  unfold State.doRestart
  try dsimp only
  simp

@[simp] theorem State.performRestart_frame (s : State) :
    s.performRestart.pending = s.pending ∧ s.performRestart.resetHeld = s.resetHeld ∧
    s.performRestart.loader = s.loader ∧ s.performRestart.config = s.config ∧ s.performRestart.trigger = s.trigger ∧
    s.performRestart.now = s.now ∧ s.performRestart.freeCount = s.freeCount := by
  unfold State.performRestart
  try dsimp only
  (repeat' split) <;> simp

@[simp] theorem State.requestRestart_frame (s : State) (q : Byte) :
    (s.requestRestart q).pending = s.pending ∧ (s.requestRestart q).resetHeld = s.resetHeld ∧
    (s.requestRestart q).loader = s.loader ∧ (s.requestRestart q).config = s.config ∧
    (s.requestRestart q).time = s.time ∧ (s.requestRestart q).table = s.table ∧
    (s.requestRestart q).composer = s.composer ∧ (s.requestRestart q).pulse = s.pulse ∧
    (s.requestRestart q).trigger = s.trigger ∧ (s.requestRestart q).origins = s.origins ∧
    (s.requestRestart q).publications = s.publications ∧ (s.requestRestart q).ring = s.ring ∧
    (s.requestRestart q).roster = s.roster ∧ (s.requestRestart q).responder = s.responder ∧
    (s.requestRestart q).counters = s.counters ∧ (s.requestRestart q).due = s.due ∧
    (s.requestRestart q).now = s.now ∧ (s.requestRestart q).freeCount = s.freeCount := by
  unfold State.requestRestart
  try dsimp only
  (repeat' split) <;> simp

@[simp] theorem State.answerEnded_frame (s : State) (q : Byte) :
    (s.answerEnded q).pending = s.pending ∧ (s.answerEnded q).resetHeld = s.resetHeld ∧
    (s.answerEnded q).loader = s.loader ∧ (s.answerEnded q).config = s.config ∧
    (s.answerEnded q).trigger = s.trigger ∧ (s.answerEnded q).now = s.now ∧
    (s.answerEnded q).freeCount = s.freeCount := by
  unfold State.answerEnded
  try dsimp only
  (repeat' split) <;> simp

@[simp] theorem State.rosterTake_frame (s : State) (m : Message) :
    (s.rosterTake m).pending = s.pending ∧ (s.rosterTake m).resetHeld = s.resetHeld ∧
    (s.rosterTake m).loader = s.loader ∧ (s.rosterTake m).config = s.config ∧ (s.rosterTake m).time = s.time ∧
    (s.rosterTake m).table = s.table ∧ (s.rosterTake m).composer = s.composer ∧ (s.rosterTake m).pulse = s.pulse ∧
    (s.rosterTake m).trigger = s.trigger ∧ (s.rosterTake m).origins = s.origins ∧
    (s.rosterTake m).publications = s.publications ∧ (s.rosterTake m).ring = s.ring ∧
    (s.rosterTake m).controller = s.controller ∧ (s.rosterTake m).responder = s.responder ∧
    (s.rosterTake m).counters = s.counters ∧ (s.rosterTake m).due = s.due ∧ (s.rosterTake m).now = s.now ∧
    (s.rosterTake m).freeCount = s.freeCount := by
  unfold State.rosterTake
  try dsimp only
  (repeat' split) <;> simp

@[simp] theorem State.ageRoster_frame (s : State) :
    s.ageRoster.pending = s.pending ∧ s.ageRoster.resetHeld = s.resetHeld ∧ s.ageRoster.loader = s.loader ∧
    s.ageRoster.config = s.config ∧ s.ageRoster.time = s.time ∧ s.ageRoster.table = s.table ∧
    s.ageRoster.composer = s.composer ∧ s.ageRoster.pulse = s.pulse ∧ s.ageRoster.trigger = s.trigger ∧
    s.ageRoster.origins = s.origins ∧ s.ageRoster.publications = s.publications ∧ s.ageRoster.ring = s.ring ∧
    s.ageRoster.controller = s.controller ∧ s.ageRoster.responder = s.responder ∧
    s.ageRoster.counters = s.counters ∧ s.ageRoster.due = s.due ∧ s.ageRoster.now = s.now ∧
    s.ageRoster.freeCount = s.freeCount := by
  unfold State.ageRoster
  try dsimp only
  simp

@[simp] theorem State.markSilent_frame (s : State) :
    s.markSilent.pending = s.pending ∧ s.markSilent.resetHeld = s.resetHeld ∧ s.markSilent.loader = s.loader ∧
    s.markSilent.config = s.config ∧ s.markSilent.time = s.time ∧ s.markSilent.table = s.table ∧
    s.markSilent.composer = s.composer ∧ s.markSilent.pulse = s.pulse ∧ s.markSilent.trigger = s.trigger ∧
    s.markSilent.origins = s.origins ∧ s.markSilent.publications = s.publications ∧ s.markSilent.ring = s.ring ∧
    s.markSilent.controller = s.controller ∧ s.markSilent.responder = s.responder ∧
    s.markSilent.counters = s.counters ∧ s.markSilent.due = s.due ∧ s.markSilent.now = s.now ∧
    s.markSilent.freeCount = s.freeCount := by
  unfold State.markSilent
  try dsimp only
  simp

@[simp] theorem State.removeGone_frame (s : State) :
    s.removeGone.pending = s.pending ∧ s.removeGone.resetHeld = s.resetHeld ∧ s.removeGone.loader = s.loader ∧
    s.removeGone.config = s.config ∧ s.removeGone.time = s.time ∧ s.removeGone.composer = s.composer ∧
    s.removeGone.pulse = s.pulse ∧ s.removeGone.trigger = s.trigger ∧ s.removeGone.origins = s.origins ∧
    s.removeGone.publications = s.publications ∧ s.removeGone.ring = s.ring ∧
    s.removeGone.controller = s.controller ∧ s.removeGone.responder = s.responder ∧
    s.removeGone.counters = s.counters ∧ s.removeGone.due = s.due ∧ s.removeGone.now = s.now ∧
    s.removeGone.freeCount = s.freeCount := by
  unfold State.removeGone
  have h_pending := foldl_keeps State.pending State.dropOrphans (by intro s a; simp)
  have h_resetHeld := foldl_keeps State.resetHeld State.dropOrphans (by intro s a; simp)
  have h_loader := foldl_keeps State.loader State.dropOrphans (by intro s a; simp)
  have h_config := foldl_keeps State.config State.dropOrphans (by intro s a; simp)
  have h_time := foldl_keeps State.time State.dropOrphans (by intro s a; simp)
  have h_composer := foldl_keeps State.composer State.dropOrphans (by intro s a; simp)
  have h_pulse := foldl_keeps State.pulse State.dropOrphans (by intro s a; simp)
  have h_trigger := foldl_keeps State.trigger State.dropOrphans (by intro s a; simp)
  have h_origins := foldl_keeps State.origins State.dropOrphans (by intro s a; simp)
  have h_publications := foldl_keeps State.publications State.dropOrphans (by intro s a; simp)
  have h_ring := foldl_keeps State.ring State.dropOrphans (by intro s a; simp)
  have h_controller := foldl_keeps State.controller State.dropOrphans (by intro s a; simp)
  have h_responder := foldl_keeps State.responder State.dropOrphans (by intro s a; simp)
  have h_counters := foldl_keeps State.counters State.dropOrphans (by intro s a; simp)
  have h_due := foldl_keeps State.due State.dropOrphans (by intro s a; simp)
  have h_now := foldl_keeps State.now State.dropOrphans (by intro s a; simp)
  have h_freeCount := foldl_keeps State.freeCount State.dropOrphans (by intro s a; simp)
  try dsimp only
  simp [h_pending, h_resetHeld, h_loader, h_config, h_time, h_composer, h_pulse, h_trigger, h_origins, h_publications, h_ring, h_controller, h_responder, h_counters, h_due, h_now, h_freeCount]

@[simp] theorem State.sendBeacon_frame (s : State) :
    s.sendBeacon.pending = s.pending ∧ s.sendBeacon.resetHeld = s.resetHeld ∧ s.sendBeacon.loader = s.loader ∧
    s.sendBeacon.config = s.config ∧ s.sendBeacon.time = s.time ∧ s.sendBeacon.table = s.table ∧
    s.sendBeacon.composer = s.composer ∧ s.sendBeacon.pulse = s.pulse ∧ s.sendBeacon.trigger = s.trigger ∧
    s.sendBeacon.origins = s.origins ∧ s.sendBeacon.publications = s.publications ∧ s.sendBeacon.roster = s.roster ∧
    s.sendBeacon.controller = s.controller ∧ s.sendBeacon.due = s.due ∧ s.sendBeacon.now = s.now := by
  unfold State.sendBeacon
  try dsimp only
  (repeat' split) <;> simp

@[simp] theorem State.placeAnswer_frame (s : State) (m : Message) (r : ResultCode) (d : List Byte) :
    (s.placeAnswer m r d).2.pending = s.pending ∧ (s.placeAnswer m r d).2.resetHeld = s.resetHeld ∧
    (s.placeAnswer m r d).2.loader = s.loader ∧ (s.placeAnswer m r d).2.config = s.config ∧
    (s.placeAnswer m r d).2.time = s.time ∧ (s.placeAnswer m r d).2.table = s.table ∧
    (s.placeAnswer m r d).2.composer = s.composer ∧ (s.placeAnswer m r d).2.pulse = s.pulse ∧
    (s.placeAnswer m r d).2.trigger = s.trigger ∧ (s.placeAnswer m r d).2.origins = s.origins ∧
    (s.placeAnswer m r d).2.publications = s.publications ∧ (s.placeAnswer m r d).2.roster = s.roster ∧
    (s.placeAnswer m r d).2.controller = s.controller ∧ (s.placeAnswer m r d).2.responder = s.responder ∧
    (s.placeAnswer m r d).2.due = s.due ∧ (s.placeAnswer m r d).2.now = s.now ∧
    (s.placeAnswer m r d).2.freeCount = s.freeCount := by
  unfold State.placeAnswer
  try dsimp only
  (repeat' split) <;> simp

@[simp] theorem State.takeSample_frame (s : State) (l : BitVec 8) :
    (s.takeSample l).pending = s.pending ∧ (s.takeSample l).resetHeld = s.resetHeld ∧
    (s.takeSample l).loader = s.loader ∧ (s.takeSample l).config = s.config ∧ (s.takeSample l).time = s.time ∧
    (s.takeSample l).table = s.table ∧ (s.takeSample l).composer = s.composer ∧ (s.takeSample l).pulse = s.pulse ∧
    (s.takeSample l).origins = s.origins ∧ (s.takeSample l).publications = s.publications ∧
    (s.takeSample l).ring = s.ring ∧ (s.takeSample l).roster = s.roster ∧
    (s.takeSample l).controller = s.controller ∧ (s.takeSample l).responder = s.responder ∧
    (s.takeSample l).counters = s.counters ∧ (s.takeSample l).due = s.due ∧ (s.takeSample l).now = s.now ∧
    (s.takeSample l).freeCount = s.freeCount := by
  unfold State.takeSample
  try dsimp only
  simp

@[simp] theorem State.takeActions_frame (s : State) (l : List (Binding × Capture)) :
    (s.takeActions l).pending = s.pending ∧ (s.takeActions l).resetHeld = s.resetHeld ∧
    (s.takeActions l).loader = s.loader ∧ (s.takeActions l).config = s.config ∧ (s.takeActions l).time = s.time ∧
    (s.takeActions l).composer = s.composer ∧ (s.takeActions l).pulse = s.pulse ∧
    (s.takeActions l).trigger = s.trigger ∧ (s.takeActions l).roster = s.roster ∧
    (s.takeActions l).controller = s.controller ∧ (s.takeActions l).due = s.due ∧
    (s.takeActions l).now = s.now := by
  unfold State.takeActions
  have h_pending := foldl_keeps State.pending (fun (s : State) (a : Binding × Capture) => s.takeAction a.1.action a.1.template a.2) (by intro s a; simp)
  have h_resetHeld := foldl_keeps State.resetHeld (fun (s : State) (a : Binding × Capture) => s.takeAction a.1.action a.1.template a.2) (by intro s a; simp)
  have h_loader := foldl_keeps State.loader (fun (s : State) (a : Binding × Capture) => s.takeAction a.1.action a.1.template a.2) (by intro s a; simp)
  have h_config := foldl_keeps State.config (fun (s : State) (a : Binding × Capture) => s.takeAction a.1.action a.1.template a.2) (by intro s a; simp)
  have h_time := foldl_keeps State.time (fun (s : State) (a : Binding × Capture) => s.takeAction a.1.action a.1.template a.2) (by intro s a; simp)
  have h_composer := foldl_keeps State.composer (fun (s : State) (a : Binding × Capture) => s.takeAction a.1.action a.1.template a.2) (by intro s a; simp)
  have h_pulse := foldl_keeps State.pulse (fun (s : State) (a : Binding × Capture) => s.takeAction a.1.action a.1.template a.2) (by intro s a; simp)
  have h_trigger := foldl_keeps State.trigger (fun (s : State) (a : Binding × Capture) => s.takeAction a.1.action a.1.template a.2) (by intro s a; simp)
  have h_roster := foldl_keeps State.roster (fun (s : State) (a : Binding × Capture) => s.takeAction a.1.action a.1.template a.2) (by intro s a; simp)
  have h_controller := foldl_keeps State.controller (fun (s : State) (a : Binding × Capture) => s.takeAction a.1.action a.1.template a.2) (by intro s a; simp)
  have h_due := foldl_keeps State.due (fun (s : State) (a : Binding × Capture) => s.takeAction a.1.action a.1.template a.2) (by intro s a; simp)
  have h_now := foldl_keeps State.now (fun (s : State) (a : Binding × Capture) => s.takeAction a.1.action a.1.template a.2) (by intro s a; simp)
  try dsimp only
  simp [h_pending, h_resetHeld, h_loader, h_config, h_time, h_composer, h_pulse, h_trigger, h_roster, h_controller, h_due, h_now]

@[simp] theorem State.tickTrigger_frame (s : State) :
    s.tickTrigger.pending = s.pending ∧ s.tickTrigger.resetHeld = s.resetHeld ∧ s.tickTrigger.loader = s.loader ∧
    s.tickTrigger.config = s.config ∧ s.tickTrigger.time = s.time ∧ s.tickTrigger.table = s.table ∧
    s.tickTrigger.composer = s.composer ∧ s.tickTrigger.pulse = s.pulse ∧ s.tickTrigger.origins = s.origins ∧
    s.tickTrigger.publications = s.publications ∧ s.tickTrigger.ring = s.ring ∧ s.tickTrigger.roster = s.roster ∧
    s.tickTrigger.controller = s.controller ∧ s.tickTrigger.responder = s.responder ∧
    s.tickTrigger.counters = s.counters ∧ s.tickTrigger.due = s.due ∧ s.tickTrigger.now = s.now ∧
    s.tickTrigger.freeCount = s.freeCount := by
  unfold State.tickTrigger
  try dsimp only
  (repeat' split) <;> simp

@[simp] theorem State.markDue_frame (s : State) :
    s.markDue.pending = s.pending ∧ s.markDue.resetHeld = s.resetHeld ∧ s.markDue.loader = s.loader ∧
    s.markDue.config = s.config ∧ s.markDue.time = s.time ∧ s.markDue.table = s.table ∧
    s.markDue.composer = s.composer ∧ s.markDue.pulse = s.pulse ∧ s.markDue.trigger = s.trigger ∧
    s.markDue.origins = s.origins ∧ s.markDue.publications = s.publications ∧ s.markDue.ring = s.ring ∧
    s.markDue.roster = s.roster ∧ s.markDue.controller = s.controller ∧ s.markDue.responder = s.responder ∧
    s.markDue.counters = s.counters ∧ s.markDue.now = s.now ∧ s.markDue.freeCount = s.freeCount := by
  unfold State.markDue
  try dsimp only
  simp

@[simp] theorem State.boundary_frame (s : State) :
    s.boundary.pending = s.pending ∧ s.boundary.resetHeld = s.resetHeld ∧ s.boundary.loader = s.loader ∧
    s.boundary.config = s.config ∧ s.boundary.time = s.time ∧ s.boundary.pulse = s.pulse ∧
    s.boundary.trigger = s.trigger ∧ s.boundary.publications = s.publications ∧ s.boundary.ring = s.ring ∧
    s.boundary.now = s.now ∧ s.boundary.freeCount = s.freeCount := by
  unfold State.boundary
  try dsimp only
  (repeat' split) <;> simp

@[simp] theorem State.settingBoundary_frame (s : State) :
    s.settingBoundary.pending = s.pending ∧ s.settingBoundary.resetHeld = s.resetHeld ∧
    s.settingBoundary.loader = s.loader ∧ s.settingBoundary.config = s.config ∧ s.settingBoundary.time = s.time ∧
    s.settingBoundary.pulse = s.pulse ∧ s.settingBoundary.trigger = s.trigger ∧
    s.settingBoundary.publications = s.publications ∧ s.settingBoundary.ring = s.ring ∧
    s.settingBoundary.now = s.now ∧ s.settingBoundary.freeCount = s.freeCount := by
  unfold State.settingBoundary
  try dsimp only
  simp

@[simp] theorem State.takeTombstones_frame (s : State) :
    s.takeTombstones.pending = s.pending ∧ s.takeTombstones.resetHeld = s.resetHeld ∧
    s.takeTombstones.loader = s.loader ∧ s.takeTombstones.config = s.config ∧ s.takeTombstones.time = s.time ∧
    s.takeTombstones.composer = s.composer ∧ s.takeTombstones.pulse = s.pulse ∧
    s.takeTombstones.trigger = s.trigger ∧ s.takeTombstones.origins = s.origins ∧
    s.takeTombstones.publications = s.publications ∧ s.takeTombstones.ring = s.ring ∧
    s.takeTombstones.roster = s.roster ∧ s.takeTombstones.controller = s.controller ∧
    s.takeTombstones.responder = s.responder ∧ s.takeTombstones.counters = s.counters ∧
    s.takeTombstones.now = s.now ∧ s.takeTombstones.freeCount = s.freeCount := by
  unfold State.takeTombstones
  try dsimp only
  (repeat' split) <;> simp

@[simp] theorem State.takePeerSilent_frame (s : State) :
    s.takePeerSilent.pending = s.pending ∧ s.takePeerSilent.resetHeld = s.resetHeld ∧
    s.takePeerSilent.loader = s.loader ∧ s.takePeerSilent.config = s.config ∧ s.takePeerSilent.time = s.time ∧
    s.takePeerSilent.table = s.table ∧ s.takePeerSilent.composer = s.composer ∧ s.takePeerSilent.pulse = s.pulse ∧
    s.takePeerSilent.trigger = s.trigger ∧ s.takePeerSilent.origins = s.origins ∧
    s.takePeerSilent.publications = s.publications ∧ s.takePeerSilent.ring = s.ring ∧
    s.takePeerSilent.controller = s.controller ∧ s.takePeerSilent.responder = s.responder ∧
    s.takePeerSilent.counters = s.counters ∧ s.takePeerSilent.now = s.now ∧
    s.takePeerSilent.freeCount = s.freeCount := by
  unfold State.takePeerSilent
  try dsimp only
  (repeat' split) <;> simp

@[simp] theorem State.takePeerGone_frame (s : State) :
    s.takePeerGone.pending = s.pending ∧ s.takePeerGone.resetHeld = s.resetHeld ∧ s.takePeerGone.loader = s.loader ∧
    s.takePeerGone.config = s.config ∧ s.takePeerGone.time = s.time ∧ s.takePeerGone.composer = s.composer ∧
    s.takePeerGone.pulse = s.pulse ∧ s.takePeerGone.trigger = s.trigger ∧ s.takePeerGone.origins = s.origins ∧
    s.takePeerGone.publications = s.publications ∧ s.takePeerGone.ring = s.ring ∧
    s.takePeerGone.controller = s.controller ∧ s.takePeerGone.responder = s.responder ∧
    s.takePeerGone.counters = s.counters ∧ s.takePeerGone.now = s.now ∧ s.takePeerGone.freeCount = s.freeCount := by
  unfold State.takePeerGone
  try dsimp only
  (repeat' split) <;> simp

@[simp] theorem State.takePublications_frame (s : State) :
    s.takePublications.pending = s.pending ∧ s.takePublications.resetHeld = s.resetHeld ∧
    s.takePublications.loader = s.loader ∧ s.takePublications.config = s.config ∧ s.takePublications.time = s.time ∧
    s.takePublications.table = s.table ∧ s.takePublications.composer = s.composer ∧
    s.takePublications.pulse = s.pulse ∧ s.takePublications.trigger = s.trigger ∧
    s.takePublications.roster = s.roster ∧ s.takePublications.controller = s.controller ∧
    s.takePublications.responder = s.responder ∧ s.takePublications.now = s.now := by
  unfold State.takePublications
  try dsimp only
  (repeat' split) <;> simp

@[simp] theorem State.takeJoinExpiry_frame (s : State) :
    s.takeJoinExpiry.pending = s.pending ∧ s.takeJoinExpiry.resetHeld = s.resetHeld ∧
    s.takeJoinExpiry.loader = s.loader ∧ s.takeJoinExpiry.config = s.config ∧ s.takeJoinExpiry.time = s.time ∧
    s.takeJoinExpiry.table = s.table ∧ s.takeJoinExpiry.trigger = s.trigger ∧ s.takeJoinExpiry.origins = s.origins ∧
    s.takeJoinExpiry.publications = s.publications ∧ s.takeJoinExpiry.roster = s.roster ∧
    s.takeJoinExpiry.responder = s.responder ∧ s.takeJoinExpiry.now = s.now := by
  unfold State.takeJoinExpiry
  try dsimp only
  (repeat' split) <;> simp

@[simp] theorem State.takeJoinPlace_frame (s : State) :
    s.takeJoinPlace.pending = s.pending ∧ s.takeJoinPlace.resetHeld = s.resetHeld ∧
    s.takeJoinPlace.loader = s.loader ∧ s.takeJoinPlace.config = s.config ∧ s.takeJoinPlace.time = s.time ∧
    s.takeJoinPlace.table = s.table ∧ s.takeJoinPlace.trigger = s.trigger ∧ s.takeJoinPlace.origins = s.origins ∧
    s.takeJoinPlace.publications = s.publications ∧ s.takeJoinPlace.roster = s.roster ∧
    s.takeJoinPlace.responder = s.responder ∧ s.takeJoinPlace.now = s.now := by
  unfold State.takeJoinPlace
  try dsimp only
  (repeat' split) <;> simp

@[simp] theorem State.takeWatch_frame (s : State) :
    s.takeWatch.pending = s.pending ∧ s.takeWatch.resetHeld = s.resetHeld ∧ s.takeWatch.loader = s.loader ∧
    s.takeWatch.config = s.config ∧ s.takeWatch.time = s.time ∧ s.takeWatch.table = s.table ∧
    s.takeWatch.trigger = s.trigger ∧ s.takeWatch.origins = s.origins ∧ s.takeWatch.publications = s.publications ∧
    s.takeWatch.ring = s.ring ∧ s.takeWatch.roster = s.roster ∧ s.takeWatch.responder = s.responder ∧
    s.takeWatch.now = s.now ∧ s.takeWatch.freeCount = s.freeCount := by
  unfold State.takeWatch
  try dsimp only
  (repeat' split) <;> simp

@[simp] theorem State.takeListenEnd_frame (s : State) :
    s.takeListenEnd.pending = s.pending ∧ s.takeListenEnd.resetHeld = s.resetHeld ∧
    s.takeListenEnd.loader = s.loader ∧ s.takeListenEnd.config = s.config ∧ s.takeListenEnd.table = s.table ∧
    s.takeListenEnd.composer = s.composer ∧ s.takeListenEnd.pulse = s.pulse ∧ s.takeListenEnd.trigger = s.trigger ∧
    s.takeListenEnd.origins = s.origins ∧ s.takeListenEnd.publications = s.publications ∧
    s.takeListenEnd.roster = s.roster ∧ s.takeListenEnd.responder = s.responder ∧ s.takeListenEnd.now = s.now := by
  unfold State.takeListenEnd
  try dsimp only
  (repeat' split) <;> simp

@[simp] theorem State.takeStrayAges_frame (s : State) :
    s.takeStrayAges.pending = s.pending ∧ s.takeStrayAges.resetHeld = s.resetHeld ∧
    s.takeStrayAges.loader = s.loader ∧ s.takeStrayAges.config = s.config ∧ s.takeStrayAges.time = s.time ∧
    s.takeStrayAges.table = s.table ∧ s.takeStrayAges.composer = s.composer ∧ s.takeStrayAges.pulse = s.pulse ∧
    s.takeStrayAges.trigger = s.trigger ∧ s.takeStrayAges.origins = s.origins ∧
    s.takeStrayAges.publications = s.publications ∧ s.takeStrayAges.ring = s.ring ∧
    s.takeStrayAges.roster = s.roster ∧ s.takeStrayAges.responder = s.responder ∧
    s.takeStrayAges.counters = s.counters ∧ s.takeStrayAges.now = s.now ∧
    s.takeStrayAges.freeCount = s.freeCount := by
  unfold State.takeStrayAges
  try dsimp only
  (repeat' split) <;> simp

@[simp] theorem State.takeBeacon_frame (s : State) :
    s.takeBeacon.pending = s.pending ∧ s.takeBeacon.resetHeld = s.resetHeld ∧ s.takeBeacon.loader = s.loader ∧
    s.takeBeacon.config = s.config ∧ s.takeBeacon.time = s.time ∧ s.takeBeacon.table = s.table ∧
    s.takeBeacon.composer = s.composer ∧ s.takeBeacon.pulse = s.pulse ∧ s.takeBeacon.trigger = s.trigger ∧
    s.takeBeacon.origins = s.origins ∧ s.takeBeacon.publications = s.publications ∧ s.takeBeacon.roster = s.roster ∧
    s.takeBeacon.controller = s.controller ∧ s.takeBeacon.now = s.now := by
  unfold State.takeBeacon
  try dsimp only
  (repeat' split) <;> simp

@[simp] theorem State.takeEntries_frame (s : State) :
    s.takeEntries.pending = s.pending ∧ s.takeEntries.resetHeld = s.resetHeld ∧ s.takeEntries.loader = s.loader ∧
    s.takeEntries.config = s.config ∧ s.takeEntries.time = s.time ∧ s.takeEntries.table = s.table ∧
    s.takeEntries.composer = s.composer ∧ s.takeEntries.pulse = s.pulse ∧ s.takeEntries.trigger = s.trigger ∧
    s.takeEntries.origins = s.origins ∧ s.takeEntries.roster = s.roster ∧ s.takeEntries.controller = s.controller ∧
    s.takeEntries.responder = s.responder ∧ s.takeEntries.now = s.now ∧ s.takeEntries.freeCount = s.freeCount := by
  unfold State.takeEntries
  try dsimp only
  (repeat' split) <;> simp

@[simp] theorem State.settleBoundary_frame (s : State) :
    s.settleBoundary.pending = s.pending ∧ s.settleBoundary.resetHeld = s.resetHeld ∧ s.settleBoundary.loader = s.loader ∧
    s.settleBoundary.config = s.config ∧ s.settleBoundary.trigger = s.trigger ∧ s.settleBoundary.now = s.now := by
  unfold State.settleBoundary
  try dsimp only
  simp

@[simp] theorem State.settleMoment_frame (s : State) :
    s.settleMoment.pending = s.pending ∧ s.settleMoment.resetHeld = s.resetHeld ∧ s.settleMoment.loader = s.loader ∧
    s.settleMoment.config = s.config ∧ s.settleMoment.trigger = s.trigger ∧ s.settleMoment.now = s.now := by
  unfold State.settleMoment
  try dsimp only
  simp

@[simp] theorem State.endMoment_frame (s : State) :
    s.endMoment.pending = s.pending ∧ s.endMoment.resetHeld = s.resetHeld ∧ s.endMoment.loader = s.loader ∧
    s.endMoment.config = s.config ∧ s.endMoment.time = s.time ∧ s.endMoment.table = s.table ∧
    s.endMoment.composer = s.composer ∧ s.endMoment.pulse = s.pulse ∧ s.endMoment.trigger = s.trigger ∧
    s.endMoment.origins = s.origins ∧ s.endMoment.publications = s.publications ∧ s.endMoment.ring = s.ring ∧
    s.endMoment.roster = s.roster ∧ s.endMoment.controller = s.controller ∧ s.endMoment.responder = s.responder ∧
    s.endMoment.counters = s.counters ∧ s.endMoment.due = { s.due with listenEnded := false } ∧
    s.endMoment.now = s.now ∧ s.endMoment.freeCount = s.freeCount := by
  simp [State.endMoment]

@[simp] theorem State.settle_frame (s : State) :
    s.settle.pending = s.pending ∧ s.settle.resetHeld = s.resetHeld ∧ s.settle.loader = s.loader ∧
    s.settle.config = s.config ∧ s.settle.trigger = s.trigger ∧ s.settle.now = s.now := by
  unfold State.settle
  try dsimp only
  simp

@[simp] theorem State.advanceStep_frame (s : State) :
    s.advanceStep.pending = s.pending ∧ s.advanceStep.resetHeld = s.resetHeld ∧ s.advanceStep.loader = s.loader ∧
    s.advanceStep.config = s.config ∧ s.advanceStep.pulse = s.pulse ∧ s.advanceStep.trigger = s.trigger ∧
    s.advanceStep.publications = s.publications ∧ s.advanceStep.ring = s.ring ∧ s.advanceStep.now = s.now ∧
    s.advanceStep.freeCount = s.freeCount := by
  unfold State.advanceStep
  try dsimp only
  simp

@[simp] theorem State.setTimebase_frame (s : State) (e : Nat) :
    (s.setTimebase e).pending = s.pending ∧ (s.setTimebase e).resetHeld = s.resetHeld ∧
    (s.setTimebase e).loader = s.loader ∧ (s.setTimebase e).config = s.config ∧ (s.setTimebase e).pulse = s.pulse ∧
    (s.setTimebase e).trigger = s.trigger ∧ (s.setTimebase e).publications = s.publications ∧
    (s.setTimebase e).ring = s.ring ∧ (s.setTimebase e).now = s.now ∧
    (s.setTimebase e).freeCount = s.freeCount := by
  unfold State.setTimebase
  try dsimp only
  simp

@[simp] theorem State.jumpTo_frame (s : State) (e : Nat) :
    (s.jumpTo e).pending = s.pending ∧ (s.jumpTo e).resetHeld = s.resetHeld ∧ (s.jumpTo e).loader = s.loader ∧
    (s.jumpTo e).config = s.config ∧ (s.jumpTo e).pulse = s.pulse ∧ (s.jumpTo e).trigger = s.trigger ∧
    (s.jumpTo e).publications = s.publications ∧ (s.jumpTo e).ring = s.ring ∧ (s.jumpTo e).now = s.now ∧
    (s.jumpTo e).freeCount = s.freeCount := by
  unfold State.jumpTo
  try dsimp only
  (repeat' split) <;> simp

@[simp] theorem State.trimBy_frame (s : State) (d : Nat) :
    (s.trimBy d).pending = s.pending ∧ (s.trimBy d).resetHeld = s.resetHeld ∧ (s.trimBy d).loader = s.loader ∧
    (s.trimBy d).config = s.config ∧ (s.trimBy d).pulse = s.pulse ∧ (s.trimBy d).trigger = s.trigger ∧
    (s.trimBy d).publications = s.publications ∧ (s.trimBy d).ring = s.ring ∧ (s.trimBy d).now = s.now ∧
    (s.trimBy d).freeCount = s.freeCount := by
  unfold State.trimBy
  try dsimp only
  (repeat' split) <;> simp

@[simp] theorem State.adopt_frame (s : State) (m : Message) :
    (s.adopt m).pending = s.pending ∧ (s.adopt m).resetHeld = s.resetHeld ∧ (s.adopt m).loader = s.loader ∧
    (s.adopt m).config = s.config ∧ (s.adopt m).pulse = s.pulse ∧ (s.adopt m).trigger = s.trigger ∧
    (s.adopt m).publications = s.publications ∧ (s.adopt m).ring = s.ring ∧ (s.adopt m).now = s.now ∧
    (s.adopt m).freeCount = s.freeCount := by
  unfold State.adopt
  try dsimp only
  (repeat' split) <;> simp

@[simp] theorem State.offerStamp_frame (s : State) (m : Message) :
    (s.offerStamp m).pending = s.pending ∧ (s.offerStamp m).resetHeld = s.resetHeld ∧
    (s.offerStamp m).loader = s.loader ∧ (s.offerStamp m).config = s.config ∧ (s.offerStamp m).pulse = s.pulse ∧
    (s.offerStamp m).trigger = s.trigger ∧ (s.offerStamp m).publications = s.publications ∧
    (s.offerStamp m).ring = s.ring ∧ (s.offerStamp m).now = s.now ∧ (s.offerStamp m).freeCount = s.freeCount := by
  unfold State.offerStamp
  try dsimp only
  (repeat' split) <;> simp

@[simp] theorem State.tickCounts_frame (s : State) :
    s.tickCounts.pending = s.pending ∧ s.tickCounts.resetHeld = s.resetHeld ∧ s.tickCounts.config = s.config ∧
    s.tickCounts.time = s.time ∧ s.tickCounts.table = s.table ∧ s.tickCounts.origins = s.origins ∧
    s.tickCounts.publications = s.publications ∧ s.tickCounts.ring = s.ring ∧ s.tickCounts.roster = s.roster ∧
    s.tickCounts.controller = s.controller ∧ s.tickCounts.responder = s.responder ∧
    s.tickCounts.counters = s.counters ∧ s.tickCounts.due = s.due := by
  unfold State.tickCounts
  try dsimp only
  simp

@[simp] theorem State.tickTime_frame (s : State) :
    s.tickTime.pending = s.pending ∧ s.tickTime.resetHeld = s.resetHeld ∧ s.tickTime.loader = s.loader ∧
    s.tickTime.config = s.config ∧ s.tickTime.pulse = s.pulse ∧ s.tickTime.trigger = s.trigger ∧
    s.tickTime.publications = s.publications ∧ s.tickTime.ring = s.ring ∧ s.tickTime.now = s.now ∧
    s.tickTime.freeCount = s.freeCount := by
  unfold State.tickTime
  try dsimp only
  (repeat' split) <;> simp

@[simp] theorem State.takeCycleStart_frame (s : State) :
    s.takeCycleStart.pending = s.pending ∧ s.takeCycleStart.resetHeld = s.resetHeld ∧
    s.takeCycleStart.loader = s.loader ∧ s.takeCycleStart.config = s.config ∧ s.takeCycleStart.time = s.time ∧
    s.takeCycleStart.table = s.table ∧ s.takeCycleStart.composer = s.composer ∧
    s.takeCycleStart.trigger = s.trigger ∧ s.takeCycleStart.origins = s.origins ∧
    s.takeCycleStart.publications = s.publications ∧ s.takeCycleStart.ring = s.ring ∧
    s.takeCycleStart.roster = s.roster ∧ s.takeCycleStart.controller = s.controller ∧
    s.takeCycleStart.responder = s.responder ∧ s.takeCycleStart.counters = s.counters ∧
    s.takeCycleStart.due = s.due ∧ s.takeCycleStart.now = s.now ∧ s.takeCycleStart.freeCount = s.freeCount := by
  unfold State.takeCycleStart
  try dsimp only
  (repeat' split) <;> simp

@[simp] theorem State.passDeadline_frame (s : State) :
    s.passDeadline.pending = s.pending ∧ s.passDeadline.resetHeld = s.resetHeld ∧ s.passDeadline.loader = s.loader ∧
    s.passDeadline.config = s.config ∧ s.passDeadline.time = s.time ∧ s.passDeadline.table = s.table ∧
    s.passDeadline.trigger = s.trigger ∧ s.passDeadline.origins = s.origins ∧
    s.passDeadline.publications = s.publications ∧ s.passDeadline.ring = s.ring ∧ s.passDeadline.roster = s.roster ∧
    s.passDeadline.controller = s.controller ∧ s.passDeadline.responder = s.responder ∧ s.passDeadline.due = s.due ∧
    s.passDeadline.now = s.now ∧ s.passDeadline.freeCount = s.freeCount := by
  unfold State.passDeadline
  try dsimp only
  (repeat' split) <;> simp

@[simp] theorem State.clockMoments_frame (s : State) :
    s.clockMoments.pending = s.pending ∧ s.clockMoments.resetHeld = s.resetHeld ∧ s.clockMoments.loader = s.loader ∧
    s.clockMoments.config = s.config ∧ s.clockMoments.time = s.time ∧ s.clockMoments.table = s.table ∧
    s.clockMoments.trigger = s.trigger ∧ s.clockMoments.origins = s.origins ∧
    s.clockMoments.publications = s.publications ∧ s.clockMoments.ring = s.ring ∧ s.clockMoments.roster = s.roster ∧
    s.clockMoments.controller = s.controller ∧ s.clockMoments.responder = s.responder ∧ s.clockMoments.due = s.due ∧
    s.clockMoments.now = s.now ∧ s.clockMoments.freeCount = s.freeCount := by
  unfold State.clockMoments
  try dsimp only
  simp

@[simp] theorem State.passTick_frame (s : State) :
    s.passTick.pending = s.pending ∧ s.passTick.resetHeld = s.resetHeld ∧ s.passTick.config = s.config ∧
    s.passTick.publications = s.publications ∧ s.passTick.ring = s.ring := by
  unfold State.passTick
  try dsimp only
  simp

@[simp] theorem State.sampleLines_frame (s : State) (l : BitVec 8) (b : Bool) :
    (s.sampleLines l b).pending = s.pending ∧ (s.sampleLines l b).resetHeld = s.resetHeld ∧
    (s.sampleLines l b).config = s.config := by
  unfold State.sampleLines
  try dsimp only
  (repeat' split) <;> simp

@[simp] theorem State.takeDueSample_frame (s : State) :
    s.takeDueSample.pending = s.pending ∧ s.takeDueSample.resetHeld = s.resetHeld ∧
    s.takeDueSample.config = s.config := by
  unfold State.takeDueSample
  try dsimp only
  (repeat' split) <;> simp

@[simp] theorem State.settleClocks_frame (s : State) :
    s.settleClocks.pending = s.pending ∧ s.settleClocks.resetHeld = s.resetHeld ∧
    s.settleClocks.config = s.config := by
  unfold State.settleClocks
  try dsimp only
  simp

@[simp] theorem State.tick_frame (s : State) :
    s.tick.pending = s.pending ∧ s.tick.resetHeld = s.resetHeld ∧ s.tick.config = s.config := by
  unfold State.tick
  try dsimp only
  simp

@[simp] theorem State.emptyReceive_frame (s : State) :
    s.emptyReceive.pending = s.pending ∧ s.emptyReceive.resetHeld = s.resetHeld ∧ s.emptyReceive.loader = s.loader ∧
    s.emptyReceive.config = s.config ∧ s.emptyReceive.time = s.time ∧ s.emptyReceive.table = s.table ∧
    s.emptyReceive.composer = s.composer ∧ s.emptyReceive.pulse = s.pulse ∧ s.emptyReceive.trigger = s.trigger ∧
    s.emptyReceive.origins = s.origins ∧ s.emptyReceive.publications = s.publications ∧
    s.emptyReceive.roster = s.roster ∧ s.emptyReceive.controller = s.controller ∧
    s.emptyReceive.responder = s.responder ∧ s.emptyReceive.counters = s.counters ∧ s.emptyReceive.due = s.due ∧
    s.emptyReceive.now = s.now ∧ s.emptyReceive.freeCount = s.freeCount := by
  unfold State.emptyReceive
  try dsimp only
  simp

@[simp] theorem State.forward_frame (s : State) (m : Message) :
    (s.forward m).pending = s.pending ∧ (s.forward m).resetHeld = s.resetHeld ∧ (s.forward m).loader = s.loader ∧
    (s.forward m).config = s.config ∧ (s.forward m).time = s.time ∧ (s.forward m).table = s.table ∧
    (s.forward m).composer = s.composer ∧ (s.forward m).pulse = s.pulse ∧ (s.forward m).trigger = s.trigger ∧
    (s.forward m).origins = s.origins ∧ (s.forward m).publications = s.publications ∧
    (s.forward m).roster = s.roster ∧ (s.forward m).controller = s.controller ∧ (s.forward m).due = s.due ∧
    (s.forward m).now = s.now ∧ (s.forward m).freeCount = s.freeCount := by
  unfold State.forward
  try dsimp only
  (repeat' split) <;> simp

@[simp] theorem State.settleBefore_frame (s : State) (r : Instr) :
    (s.settleBefore r).pending = s.pending ∧ (s.settleBefore r).resetHeld = s.resetHeld ∧
    (s.settleBefore r).loader = s.loader ∧ (s.settleBefore r).config = s.config ∧
    (s.settleBefore r).trigger = s.trigger ∧ (s.settleBefore r).now = s.now := by
  unfold State.settleBefore
  try dsimp only
  (repeat' split) <;> simp

@[simp] theorem State.hear_frame (s : State) (m : Message) :
    (s.hear m).pending = s.pending ∧ (s.hear m).resetHeld = s.resetHeld ∧ (s.hear m).loader = s.loader ∧
    (s.hear m).config = s.config ∧ (s.hear m).trigger = s.trigger ∧ (s.hear m).now = s.now := by
  unfold State.hear
  try dsimp only
  (repeat' split) <;> simp

@[simp] theorem State.acceptUnknown_frame (s : State) (m : Message) :
    (s.acceptUnknown m).pending = s.pending ∧ (s.acceptUnknown m).resetHeld = s.resetHeld ∧
    (s.acceptUnknown m).loader = s.loader ∧ (s.acceptUnknown m).config = s.config ∧
    (s.acceptUnknown m).time = s.time ∧ (s.acceptUnknown m).table = s.table ∧
    (s.acceptUnknown m).composer = s.composer ∧ (s.acceptUnknown m).pulse = s.pulse ∧
    (s.acceptUnknown m).trigger = s.trigger ∧ (s.acceptUnknown m).origins = s.origins ∧
    (s.acceptUnknown m).publications = s.publications ∧ (s.acceptUnknown m).roster = s.roster ∧
    (s.acceptUnknown m).controller = s.controller ∧ (s.acceptUnknown m).due = s.due ∧
    (s.acceptUnknown m).now = s.now ∧ (s.acceptUnknown m).freeCount = s.freeCount := by
  unfold State.acceptUnknown
  try dsimp only
  (repeat' split) <;> simp

@[simp] theorem State.grantForwarded_frame (s : State) (w : Waiting) (r : List Waiting) (p : Bool) :
    (s.grantForwarded w r p).pending = s.pending ∧ (s.grantForwarded w r p).resetHeld = s.resetHeld ∧
    (s.grantForwarded w r p).loader = s.loader ∧ (s.grantForwarded w r p).config = s.config ∧
    (s.grantForwarded w r p).time = s.time ∧ (s.grantForwarded w r p).table = s.table ∧
    (s.grantForwarded w r p).composer = s.composer ∧ (s.grantForwarded w r p).pulse = s.pulse ∧
    (s.grantForwarded w r p).trigger = s.trigger ∧ (s.grantForwarded w r p).origins = s.origins ∧
    (s.grantForwarded w r p).publications = s.publications ∧ (s.grantForwarded w r p).roster = s.roster ∧
    (s.grantForwarded w r p).controller = s.controller ∧ (s.grantForwarded w r p).responder = s.responder ∧
    (s.grantForwarded w r p).counters = s.counters ∧ (s.grantForwarded w r p).due = s.due ∧
    (s.grantForwarded w r p).now = s.now ∧ (s.grantForwarded w r p).freeCount = s.freeCount := by
  unfold State.grantForwarded
  try dsimp only
  (repeat' split) <;> simp

@[simp] theorem State.reportRoom_frame (s : State) :
    s.reportRoom.pending = s.pending ∧ s.reportRoom.resetHeld = s.resetHeld ∧ s.reportRoom.loader = s.loader ∧
    s.reportRoom.config = s.config ∧ s.reportRoom.time = s.time ∧ s.reportRoom.table = s.table ∧
    s.reportRoom.composer = s.composer ∧ s.reportRoom.pulse = s.pulse ∧ s.reportRoom.trigger = s.trigger ∧
    s.reportRoom.origins = s.origins ∧ s.reportRoom.publications = s.publications ∧ s.reportRoom.ring = s.ring ∧
    s.reportRoom.roster = s.roster ∧ s.reportRoom.controller = s.controller ∧ s.reportRoom.responder = s.responder ∧
    s.reportRoom.counters = s.counters ∧ s.reportRoom.now = s.now ∧ s.reportRoom.freeCount = s.freeCount := by
  unfold State.reportRoom
  try dsimp only
  simp

@[simp] theorem State.grantOwn_frame (s : State) (o : OwnMessage) (r : List OwnMessage) :
    (s.grantOwn o r).pending = s.pending ∧ (s.grantOwn o r).resetHeld = s.resetHeld ∧
    (s.grantOwn o r).loader = s.loader ∧ (s.grantOwn o r).config = s.config ∧ (s.grantOwn o r).time = s.time ∧
    (s.grantOwn o r).table = s.table ∧ (s.grantOwn o r).composer = s.composer ∧ (s.grantOwn o r).pulse = s.pulse ∧
    (s.grantOwn o r).trigger = s.trigger ∧ (s.grantOwn o r).origins = s.origins ∧
    (s.grantOwn o r).roster = s.roster ∧ (s.grantOwn o r).responder = s.responder ∧
    (s.grantOwn o r).counters = s.counters ∧ (s.grantOwn o r).now = s.now ∧
    (s.grantOwn o r).freeCount = s.freeCount := by
  unfold State.grantOwn
  try dsimp only
  simp

@[simp] theorem State.grant_frame (s : State) (p : Bool) :
    (s.grant p).pending = s.pending ∧ (s.grant p).resetHeld = s.resetHeld ∧ (s.grant p).loader = s.loader ∧
    (s.grant p).config = s.config ∧ (s.grant p).time = s.time ∧ (s.grant p).table = s.table ∧
    (s.grant p).composer = s.composer ∧ (s.grant p).pulse = s.pulse ∧ (s.grant p).trigger = s.trigger ∧
    (s.grant p).origins = s.origins ∧ (s.grant p).roster = s.roster ∧ (s.grant p).responder = s.responder ∧
    (s.grant p).counters = s.counters ∧ (s.grant p).now = s.now ∧ (s.grant p).freeCount = s.freeCount := by
  unfold State.grant
  try dsimp only
  (repeat' split) <;> simp

@[simp] theorem State.endTransmission_frame (s : State) :
    s.endTransmission.pending = s.pending ∧ s.endTransmission.resetHeld = s.resetHeld ∧
    s.endTransmission.loader = s.loader ∧ s.endTransmission.config = s.config ∧
    s.endTransmission.trigger = s.trigger ∧ s.endTransmission.now = s.now ∧
    s.endTransmission.freeCount = s.freeCount := by
  unfold State.endTransmission
  try dsimp only
  (repeat' split) <;> simp

@[simp] theorem State.beginReception_frame (s : State) (b : List Byte) :
    (s.beginReception b).pending = s.pending ∧ (s.beginReception b).resetHeld = s.resetHeld ∧
    (s.beginReception b).loader = s.loader ∧ (s.beginReception b).config = s.config ∧
    (s.beginReception b).time = s.time ∧ (s.beginReception b).table = s.table ∧
    (s.beginReception b).composer = s.composer ∧ (s.beginReception b).pulse = s.pulse ∧
    (s.beginReception b).trigger = s.trigger ∧ (s.beginReception b).origins = s.origins ∧
    (s.beginReception b).publications = s.publications ∧ (s.beginReception b).roster = s.roster ∧
    (s.beginReception b).controller = s.controller ∧ (s.beginReception b).responder = s.responder ∧
    (s.beginReception b).counters = s.counters ∧ (s.beginReception b).due = s.due ∧
    (s.beginReception b).now = s.now ∧ (s.beginReception b).freeCount = s.freeCount := by
  unfold State.beginReception
  try dsimp only
  simp

end Sys2Proof.Machine
end

