-- ==== Sys2Proof/WellFormed.lean ====
section
/-! DEFINITION. Which commands are well formed: the lengths that R116 and R192 give their operands. -/

namespace Sys2Proof

/-- A record read is 340 bytes (R192); a receive buffer takes at most 50 data bytes (R115, R116). -/
def Instr.wf : Instr → Bool
  | .loadComplete record => record.length == 340
  | .receptionStart bytes => bytes.length ≤ 50
  | .receptionAborted (.start following) => following.length ≤ 50
  | _ => true

end Sys2Proof
end

