-- ==== Sys2Proof/Laws/PerInstr.lean ====
section
/-! SUPPORT. For every command, when it is well formed. -/

namespace Sys2Proof.Laws.WellFormedness

/-- A command is well formed exactly when the bytes it carries are as many as R116 and R192 allow. -/
def Statement (i : Instr) : Prop :=
  i.wf = true ↔
    (∀ record, i = .loadComplete record → record.length = 340) ∧
      (∀ bytes, i = .receptionStart bytes → bytes.length ≤ 50) ∧
      (∀ bytes, i = .receptionAborted (.start bytes) → bytes.length ≤ 50)

/-- The statement, for all commands at once. -/
theorem of_cases (i : Instr) : Statement i := by
  cases i with
  | receptionAborted symbol => cases symbol <;> simp [Statement, Instr.wf]
  | _ => simp [Statement, Instr.wf]

theorem fullReset : Statement .fullReset := of_cases _
theorem resetRelease : Statement .resetRelease := of_cases _
theorem loadComplete (record : List Byte) : Statement (.loadComplete record) := of_cases _
theorem linkModeSwitch : Statement .linkModeSwitch := of_cases _
theorem receptionAborted (symbol : AbortSymbol) : Statement (.receptionAborted symbol) := of_cases _
theorem receptionOverlong : Statement .receptionOverlong := of_cases _
theorem beacon : Statement .beacon := of_cases _
theorem join : Statement .join := of_cases _
theorem cue : Statement .cue := of_cases _
theorem release : Statement .release := of_cases _
theorem clear : Statement .clear := of_cases _
theorem answer : Statement .answer := of_cases _
theorem unknownKind : Statement .unknownKind := of_cases _
theorem readStatus : Statement .readStatus := of_cases _
theorem readCounters : Statement .readCounters := of_cases _
theorem readCue : Statement .readCue := of_cases _
theorem readPeer : Statement .readPeer := of_cases _
theorem readChannel : Statement .readChannel := of_cases _
theorem clearCounters : Statement .clearCounters := of_cases _
theorem restart : Statement .restart := of_cases _
theorem badSelector : Statement .badSelector := of_cases _
theorem ownMessageStripped : Statement .ownMessageStripped := of_cases _
theorem grant (partTick : Bool) : Statement (.grant partTick) := of_cases _
theorem transmissionEnd : Statement .transmissionEnd := of_cases _
theorem placeWaitingEntries : Statement .placeWaitingEntries := of_cases _
theorem placeWaitingJoin : Statement .placeWaitingJoin := of_cases _
theorem ordinaryAdvance : Statement .ordinaryAdvance := of_cases _
theorem tombstoneFreed : Statement .tombstoneFreed := of_cases _
theorem passComplete : Statement .passComplete := of_cases _
theorem cycleStart : Statement .cycleStart := of_cases _
theorem triggerSample (levels : BitVec 8) (boundaryBetween : Bool) : Statement (.triggerSample levels boundaryBetween) := of_cases _
theorem publicationTimeout : Statement .publicationTimeout := of_cases _
theorem watchExpiry : Statement .watchExpiry := of_cases _
theorem joinExpiry : Statement .joinExpiry := of_cases _
theorem listenEnd : Statement .listenEnd := of_cases _
theorem peerSilent : Statement .peerSilent := of_cases _
theorem peerGone : Statement .peerGone := of_cases _
theorem beaconDue : Statement .beaconDue := of_cases _
theorem strayEchoAgeExpiry : Statement .strayEchoAgeExpiry := of_cases _
theorem receptionStart (bytes : List Byte) : Statement (.receptionStart bytes) := of_cases _
theorem passThroughRepeatingResumed : Statement .passThroughRepeatingResumed := of_cases _

end Sys2Proof.Laws.WellFormedness
end

