-- ==== Sys2Proof/Laws/Shared.lean ====
section
/-! SUPPORT. What the operations that many commands share come to: finishing the work left due, the end of a reception,
a restart, a counter, an origin slot, a JOIN, a boundary, a pass start. -/

namespace Sys2Proof.Machine

set_option Elab.async false

/-! ### Folds -/

/-- A property that every turn of a fold keeps is kept by the fold. -/
theorem foldl_keeps_prop {α : Type} {P : State → Prop} {f : State → α → State} (h : ∀ s a, P s → P (f s a)) :
    ∀ (l : List α) (s : State), P s → P (l.foldl f s) := by
  intro l
  induction l with
  | nil => intro s hs; exact hs
  | cons a l ih => intro s hs; exact ih _ (h s a hs)

/-! ### The work left due (log 5) -/

/-- With nothing of a boundary due, finishing it changes nothing. -/
theorem settleBoundary_of_done (s : State) (h : s.boundaryDone) : s.settleBoundary = s := by
  have h1 := congrArg Due.tombstones h
  have h2 := congrArg Due.peerSilent h
  have h3 := congrArg Due.peerGone h
  have h4 := congrArg Due.publications h
  have h5 := congrArg Due.joinExpiry h
  have h6 := congrArg Due.watch h
  have h7 := congrArg Due.strayAges h
  have h8 := congrArg Due.beacon h
  simp only [Due.none] at h1 h2 h3 h4 h5 h6 h7 h8
  simp [State.settleBoundary, State.takeTombstones, State.takePeerSilent, State.takePeerGone, State.takePublications,
    State.takeJoinExpiry, State.takeWatch, State.takeStrayAges, State.takeBeacon, h1, h2, h3, h4, h5, h6, h7, h8]

theorem settleMoment_of_done (s : State) (h : s.momentDone) : s.settleMoment = s := by
  simp [State.settleMoment, settleBoundary_of_done s h.1, State.takeListenEnd, h.2]

theorem settleBefore_of_done (s : State) (row : Instr) (h : s.doneBefore row) : s.settleBefore row = s := by
  unfold State.settleBefore
  split
  · exact settleBoundary_of_done s h.1
  · rename_i hr
    exact settleMoment_of_done s ⟨h.1, h.2 hr⟩

theorem momentDone_of_quiet {s : State} (h : s.quiet) : s.momentDone := by
  have h' : s.due = Due.none := h
  simp [State.momentDone, State.boundaryDone, h', Due.none]

theorem doneBefore_of_momentDone {s : State} (h : s.momentDone) (row : Instr) : s.doneBefore row :=
  ⟨h.1, fun _ => h.2⟩

/-- With no end of LISTEN noted, the end of the moment changes nothing. -/
theorem endMoment_of_false (s : State) (h : s.due.listenEnded = false) : s.endMoment = s := by
  unfold State.endMoment
  rw [← h]
  rfl

/-- With nothing due, finishing it changes nothing. -/
theorem settle_of_quiet (s : State) (h : s.quiet) : s.settle = s := by
  have h' : s.due = Due.none := h
  have he := endMoment_of_false s (by rw [h']; rfl)
  simp [State.settle, settleMoment_of_done s (momentDone_of_quiet h), State.takeJoinPlace, State.takeEntries, he, h', Due.none]

/-! What each part of the work clears, and what is left due afterwards. -/

theorem takeTombstones_due (s : State) : s.takeTombstones.due = { s.due with tombstones := false } := by
  unfold State.takeTombstones
  split <;> (cases hd : s.due) <;> simp_all [State.withDue, State.withTable]

theorem takePeerSilent_due (s : State) : s.takePeerSilent.due = { s.due with peerSilent := false } := by
  unfold State.takePeerSilent
  split <;> (cases hd : s.due) <;> simp_all [State.withDue]

theorem takePeerGone_due (s : State) : s.takePeerGone.due = { s.due with peerGone := false } := by
  unfold State.takePeerGone
  split <;> (cases hd : s.due) <;> simp_all [State.withDue]

theorem takePublications_due (s : State) : s.takePublications.due = { s.due with publications := false } := by
  unfold State.takePublications
  split <;> (cases hd : s.due) <;> simp_all [State.withDue]

theorem takeStrayAges_due (s : State) : s.takeStrayAges.due = { s.due with strayAges := false } := by
  unfold State.takeStrayAges
  dsimp only
  (repeat' split) <;> (cases hd : s.due) <;> simp_all [State.withDue]

theorem takeBeacon_due (s : State) : s.takeBeacon.due = { s.due with beacon := false } := by
  unfold State.takeBeacon
  dsimp only
  (repeat' split) <;> (cases hd : s.due) <;> simp_all [State.withDue]

theorem takeListenEnd_due (s : State) :
    ∃ b, s.takeListenEnd.due = { s.due with listenEnd := false, listenEnded := b } := by
  unfold State.takeListenEnd
  dsimp only
  split
  · split
    · exact ⟨true, by simp⟩
    · exact ⟨s.due.listenEnded, by simp⟩
  · exact ⟨s.due.listenEnded, by cases hd : s.due; simp_all⟩

theorem takeEntries_due (s : State) : s.takeEntries.due = { s.due with entries := false } := by
  unfold State.takeEntries
  split <;> (cases hd : s.due) <;> simp_all [State.withDue]

theorem judgeJoin_due (s : State) : ∃ b, s.judgeJoin.due = { s.due with entries := b } := by
  unfold State.judgeJoin
  dsimp only
  (repeat' split) <;> (cases hd : s.due) <;> simp_all [State.enterIsolated, State.reportEntries, State.withDue]

theorem expireWatch_due (s : State) : ∃ b, s.expireWatch.due = { s.due with entries := b } := by
  unfold State.expireWatch
  dsimp only
  (repeat' split) <;> (cases hd : s.due) <;> simp_all [State.enterIsolated, State.reportEntries, State.withDue]

theorem takeJoinExpiry_due (s : State) :
    ∃ b, s.takeJoinExpiry.due = { s.due with joinExpiry := false, entries := b } := by
  unfold State.takeJoinExpiry
  split
  · obtain ⟨b, h⟩ := judgeJoin_due (s.withDue { s.due with joinExpiry := false })
    exact ⟨b, h⟩
  · exact ⟨s.due.entries, by cases hd : s.due; simp_all⟩

theorem takeWatch_due (s : State) : ∃ b, s.takeWatch.due = { s.due with watch := false, entries := b } := by
  unfold State.takeWatch
  split
  · obtain ⟨b, h⟩ := expireWatch_due (s.withDue { s.due with watch := false })
    exact ⟨b, h⟩
  · exact ⟨s.due.entries, by cases hd : s.due; simp_all⟩

theorem takeJoinPlace_due (s : State) (h : s.due.joinExpiry = false) :
    s.takeJoinPlace.due = { s.due with joinPlace := false } := by
  unfold State.takeJoinPlace State.takeJoinExpiry
  simp only [h]
  split <;> (cases hd : s.due) <;> simp_all [State.withDue]

theorem settleBoundary_done (s : State) :
    s.settleBoundary.boundaryDone ∧ s.settleBoundary.due.listenEnd = s.due.listenEnd ∧
      s.settleBoundary.due.listenEnded = s.due.listenEnded := by
  unfold State.boundaryDone State.settleBoundary
  obtain ⟨b1, h1⟩ := takeJoinExpiry_due s.takeTombstones.takePeerSilent.takePeerGone.takePublications
  obtain ⟨b2, h2⟩ := takeWatch_due s.takeTombstones.takePeerSilent.takePeerGone.takePublications.takeJoinExpiry
  simp [takeBeacon_due, takeStrayAges_due, h2, h1, takePublications_due, takePeerGone_due, takePeerSilent_due,
    takeTombstones_due, Due.none]

theorem settleMoment_done (s : State) : s.settleMoment.momentDone := by
  have h := settleBoundary_done s
  unfold State.momentDone State.boundaryDone at *
  unfold State.settleMoment
  obtain ⟨b, hb⟩ := takeListenEnd_due s.settleBoundary
  rw [hb]
  exact ⟨by rw [h.1], rfl⟩

theorem settle_quiet (s : State) : s.settle.quiet := by
  have h := settleMoment_done s
  unfold State.momentDone State.boundaryDone at h
  have he : s.settleMoment.due.joinExpiry = false := by rw [h.1]; rfl
  unfold State.quiet State.settle
  have hd : ∀ t : State, t.endMoment.due = { t.due with listenEnded := false } := fun _ => rfl
  rw [hd, takeEntries_due, takeJoinPlace_due _ he, h.1, h.2]
  rfl

/-! ### The end of a reception (R116, R117, R123) -/

/-- A row of a message of known kind is the end of a reception with its content. -/
theorem exec_of_rowContent {row : Instr} {content : Message → State → Verdict × State}
    (h : rowContent row = some content) (s : State) :
    exec row s = .next (s.endReception row fun m ready => ready.acceptKnown m content) := by
  cases row <;> simp [rowContent] at h <;> subst h <;> rfl

/-- Every row that reports an END is the end of a reception with one of three ways to take the message. -/
theorem exec_of_rowEndsReception {row : Instr} (h : rowEndsReception row = true) :
    ∃ take, (∀ s, exec row s = .next (s.endReception row take)) ∧
      ((∃ content, rowContent row = some content ∧ take = fun m ready => ready.acceptKnown m content) ∨
        (row = .unknownKind ∧ take = fun m ready => ready.acceptUnknown m) ∨
        (row = .ownMessageStripped ∧ take = takeStripped)) := by
  cases hc : rowContent row with
  | some c => exact ⟨_, exec_of_rowContent hc, Or.inl ⟨c, rfl, rfl⟩⟩
  | none =>
    simp [rowEndsReception, hc] at h
    rcases h with rfl | rfl
    · exact ⟨fun m ready => ready.acceptUnknown m, fun _ => rfl, by simp⟩
    · exact ⟨takeStripped, fun _ => rfl, by simp⟩

theorem endReception_of_done (s : State) (row : Instr) (take : Message → State → State) (h : s.doneBefore row) :
    s.endReception row take =
      match s.received with
      | none => s
      | some .malformed => s.emptyReceive.count .malformed
      | some .crcError => s.emptyReceive.count .crcError
      | some (.accepted m) => if s.rowOf m = row then take m s.emptyReceive else s := by
  unfold State.endReception
  have e := settleBefore_of_done s row h
  generalize s.settleBefore row = ready at e
  subst e
  rfl

theorem received_of_holds (s : State) (b : List Byte) (h : s.holds b) : s.received = some (acceptance b) := by
  simp [State.received, h.1, h.2]

/-- What no content of a message changes. -/
theorem rowContent_frame {row : Instr} {content : Message → State → Verdict × State}
    (h : rowContent row = some content) (m : Message) (s : State) :
    (content m s).2.pending = s.pending ∧ (content m s).2.resetHeld = s.resetHeld ∧
      (content m s).2.loader = s.loader ∧ (content m s).2.config = s.config ∧
      (content m s).2.trigger = s.trigger ∧ (content m s).2.now = s.now := by
  cases row <;> simp [rowContent] at h <;> subst h <;>
    simp only [noContent, joinContent, cueContent, releaseContent, clearContent, requestContent, answerRead,
      answerClear, answerRestart] <;>
    (repeat' split) <;> simp

theorem acceptKnown_frame {row : Instr} {content : Message → State → Verdict × State}
    (h : rowContent row = some content) (m : Message) (s : State) :
    (s.acceptKnown m content).pending = s.pending ∧ (s.acceptKnown m content).resetHeld = s.resetHeld ∧
      (s.acceptKnown m content).loader = s.loader ∧ (s.acceptKnown m content).config = s.config ∧
      (s.acceptKnown m content).trigger = s.trigger ∧ (s.acceptKnown m content).now = s.now := by
  unfold State.acceptKnown State.handOn
  dsimp only
  (repeat' split) <;> simp [rowContent_frame h]

theorem takeStripped_frame (m : Message) (s : State) :
    (takeStripped m s).pending = s.pending ∧ (takeStripped m s).resetHeld = s.resetHeld ∧
      (takeStripped m s).loader = s.loader ∧ (takeStripped m s).config = s.config ∧
      (takeStripped m s).trigger = s.trigger ∧ (takeStripped m s).now = s.now := by
  unfold takeStripped
  (repeat' split) <;> simp

/-! ### The loader in a tick (R192) -/

theorem Loader.tick_idle (l : Loader) : l.tick = .idle ↔ l = .idle := by cases l <;> simp [Loader.tick]

theorem tickCounts_loader_idle (s : State) : s.tickCounts.loader = .idle ↔ s.loader = .idle := by
  unfold State.tickCounts
  simp [Loader.tick_idle]

theorem passTick_loader_idle (s : State) : s.passTick.loader = .idle ↔ s.loader = .idle := by
  unfold State.passTick
  simp [tickCounts_loader_idle]

theorem sampleLines_loader_idle (s : State) (l : BitVec 8) (b : Bool) :
    (s.sampleLines l b).loader = .idle ↔ s.loader = .idle := by
  unfold State.sampleLines
  dsimp only
  split <;> simp [passTick_loader_idle]

theorem settleClocks_loader_idle (s : State) : s.settleClocks.loader = .idle ↔ s.loader = .idle := by
  unfold State.settleClocks State.takeDueSample
  split <;> simp [sampleLines_loader_idle]

theorem tick_loader_idle (s : State) : s.tick.loader = .idle ↔ s.loader = .idle := by
  unfold State.tick
  simp [passTick_loader_idle, settleClocks_loader_idle]

/-! ### Restart (R168) -/

theorem performRestart_of_strips (s : State) (h : s.controller.state.strips = true) :
    s.performRestart = s.doRestart := by
  unfold State.performRestart
  revert h
  cases s.controller.state <;> simp [NodeState.strips]

theorem performRestart_of_not_strips (s : State) (h : s.controller.state.strips = false) : s.performRestart = s := by
  unfold State.performRestart
  revert h
  cases s.controller.state <;> simp [NodeState.strips]

/-! ### Counters (R185) -/

/-- A count moves its own counter and no other. -/
theorem get_bump (c : Counters) (k j : Counter) :
    (c.bump k).get j = if j = k then bumpCount (c.get j) else c.get j := by
  cases k <;> cases j <;> rfl

/-! ### Origin slots and publications (R96, R100, R108) -/

theorem originSlot_set (s : State) (t i : Nat) (o : OriginSlot) (h : t < s.origins.length) :
    (s.setOriginSlot t o).originSlot i = if i = t then o else s.originSlot i := by
  simp only [State.originSlot, State.setOriginSlot, State.withOrigins, List.getD_eq_getElem?_getD,
    List.getElem?_set]
  by_cases hi : t = i
  · subst hi
    simp [h]
  · rw [if_neg hi, if_neg (fun x => hi x.symm)]

/-- The replay feed changes no origin slot but for its mark. -/
theorem feedSlot_origins (s : State) (t : Nat) :
    (s.feedSlot t).origins = s.origins ∨
      (s.feedSlot t).origins = s.origins.set t { s.originSlot t with replay := false } := by
  unfold State.feedSlot
  dsimp only
  (repeat' split) <;> simp [State.setOriginSlot, State.createPublication, State.takeSequence, State.takeTarget]

/-- Each entry after placing in order is one from before, or one from before put on the ring. -/
theorem placeInOrder_mem (room : Nat) (l : List Publication) (x : Publication) (h : x ∈ (placeInOrder room l).1) :
    x ∈ l ∨ ∃ e ∈ l, e.onRing = false ∧ x = { e with onRing := true, sent := none } := by
  induction l generalizing room with
  | nil => simp [placeInOrder] at h
  | cons e rest ih =>
    unfold placeInOrder at h
    split at h
    · simp only [List.mem_cons] at h
      rcases h with rfl | h
      · simp
      · rcases ih _ h with h | ⟨e', h1, h2⟩
        · simp [h]
        · exact Or.inr ⟨e', by simp [h1], h2⟩
    · rename_i hr
      cases room with
      | zero => left; simpa using h
      | succ n =>
        simp only [List.mem_cons] at h
        rcases h with rfl | h
        · right
          exact ⟨e, by simp, by simpa using hr, rfl⟩
        · rcases ih _ h with h | ⟨e', h1, h2⟩
          · simp [h]
          · exact Or.inr ⟨e', by simp [h1], h2⟩

theorem placePublications_mem (s : State) (x : Publication) (h : x ∈ s.placePublications.publications) :
    x ∈ s.publications ∨ ∃ e ∈ s.publications, e.onRing = false ∧ x = { e with onRing := true, sent := none } := by
  unfold State.placePublications at h
  dsimp only at h
  split at h
  · rw [foldl_keeps State.publications State.countPlaced (by intro s a; simp)] at h
    exact placeInOrder_mem _ _ _ h
  · exact Or.inl h

/-! ### JOIN (R159) -/

theorem placeJoin_of_room (s : State) (h : s.ring.sendQueue.length < 8) :
    s.placeJoin =
      { s with
        freeCount := s.freeCount + 1
        ring :=
          { s.ring with
            nextSequence := s.ring.nextSequence + 1
            sendQueue := s.ring.sendQueue ++
              [{ kind := .join, sequence := s.ring.nextSequence, target := Config.ownTarget s.freeCount,
                 payload := s.config.announcement }] }
        controller :=
          { s.controller with
            joinSequences := s.controller.joinSequences ++ [s.ring.nextSequence], joinWaiting := false }
        counters := s.counters.bump .joinAttempts } := by
  have hq : s.queueRoom = true := by simpa [State.queueRoom] using h
  simp only [State.placeJoin, hq, if_true]
  obtain ⟨a1, a2, a3, a4, a5, a6, a7, a8, a9, a10, a11, ⟨r1, r2, r3, r4, r5, r6, r7, r8, r9⟩, a13,
    ⟨c1, c2, c3, c4, c5, c6, c7, c8, c9, c10, c11, c12⟩, a14, a15, a16, a17, a18⟩ := s
  simp only [State.count, State.withCounters, State.withController, State.enqueue, State.takeTarget,
    State.takeSequence, State.withRing, State.withFreeCount]

theorem placeJoin_of_full (s : State) (h : 8 ≤ s.ring.sendQueue.length) :
    s.placeJoin = { s with controller := { s.controller with joinWaiting := true } } := by
  have hq : ¬ s.queueRoom = true := by simpa [State.queueRoom] using h
  simp only [State.placeJoin, hq]
  rfl

/-! ### Pass start and boundary (R29, R30, R48) -/

theorem startPass_due (s : State) (n : StepNo) : (s.startPass n).due = { s.due with tombstones := true } := by
  unfold State.startPass
  dsimp only
  split <;> simp

theorem abortPass_get (s : State) (k : Counter) (h : k ≠ .passAborted) :
    s.abortPass.counters.get k = s.counters.get k := by
  unfold State.abortPass
  split <;> simp [State.count, get_bump]
  intro h'
  exact absurd h' h

theorem startPass_get (s : State) (n : StepNo) (k : Counter) (h1 : k ≠ .passAborted) (h2 : k ≠ .failsafeSteps) :
    (s.startPass n).counters.get k = s.counters.get k := by
  unfold State.startPass
  dsimp only
  split <;> simp [State.count, get_bump, abortPass_get _ _ h1]
  intro h
  exact absurd h h2

/-- A boundary counts aborted passes and failsafe steps alone. -/
theorem boundary_get (s : State) (k : Counter) (h1 : k ≠ .passAborted) (h2 : k ≠ .failsafeSteps) :
    s.boundary.counters.get k = s.counters.get k := by
  unfold State.boundary
  dsimp only
  split <;> split <;> simp [startPass_get _ _ _ h1 h2]

end Sys2Proof.Machine
end

