-- ==== Sys2Proof/Tests/Slice0.lean ====
section
/-! SUPPORT. Tests: the ill-formed commands, the spec's worked examples, and for each obligation with hypotheses a
concrete state and operands that meet them, clause by clause. -/

set_option maxRecDepth 100000
set_option Elab.async false

namespace Sys2Proof.Tests

open Sys2Proof.Machine

/-! ### A small node -/

def template0 : Template :=
  { number := 12, priority := 2, first := 100, last := 103, blend := .replace, function := .ramp, l0 := 0, l1 := 1000,
    d := 20, duration := some 50, lead := 2, fade := 20, orphan := .drop }

/-- Node 5 owns channels 100..107 on a step length of 1000 ticks. Either edge of input 2 toggles template 0. -/
def config : NodeConfig :=
  { NodeConfig.blank with
    stationId := 5, channelBase := 100, channelCount := 8, stepLength := 1000, tolerance := 4, linkAllowance := 1,
    circuitLimit := 4, beaconInterval := 8, isolationHold := 24, failsafePolicy := .failsafeLevel,
    failsafeLevel := 1200
    templates := some template0 :: List.replicate 15 none
    bindings := some { input := 2, edge := .both, action := .toggle, template := 0 } :: List.replicate 15 none }

/-- Node 5 at (3000, 500) in node state n, its links in STORE-AND-FORWARD. -/
def node (n : NodeState) : State :=
  { State.reset with
    resetHeld := false
    config := config
    time := { step := 3000, phase := 500, isSet := true, trimUsed := 0, running := true }
    pulse := { PulseUnit.reset with running := true, live := true, zeroed := false }
    trigger := { TriggerUnit.reset with running := true, countdown := 7 }
    ring := { RingPort.reset with mode := .storeAndForward, repeating := false }
    controller := { Controller.reset with state := n } }

def atPhase (p : Nat) (s : State) : State := { s with time := { s.time with phase := p } }
def atStep (n : StepNo) (s : State) : State := { s with time := { s.time with step := n } }
def unset (s : State) : State := { s with time := { s.time with isSet := false } }
def receiving (b : List Byte) (s : State) : State := { s with ring := { s.ring with receive := some b } }
def waiting (w : List Waiting) (s : State) : State := { s with ring := { s.ring with insertion := w } }
def sending (t : Transmitter) (s : State) : State := { s with ring := { s.ring with transmitter := t } }
def queueing (q : List OwnMessage) (s : State) : State := { s with ring := { s.ring with sendQueue := q } }
def withSlots (l : List Slot) (s : State) : State :=
  { s with table := l ++ List.replicate (48 - l.length) .free }

/-- The state after a command, for a test. -/
def after (c : Instr) (s : State) : State :=
  match exec c s with
  | .next t => t
  | _ => s

def message (kind : BitVec 4) (payload : List Byte) : Message :=
  { kind := kind, origin := 7, target := 5, sequence := 9, hop := 0, seen := 0, refused := 0, stampStep := 3000,
    stampPhase := 400, transit := 0, payload := payload }

/-- Cue 12 of node 7 on channels 96..103. -/
def cue7 : Cue :=
  { origin := 7, number := 12, revision := 5, priority := 2, first := 96, last := 103, blend := .highest,
    function := .gradient, l0 := 10, l1 := 1000, d := 0, start := 3004, stop := some 3100, orphan := .keep }

def live7 : LiveEntry := { cue := cue7, release := none, phase := .pending, late := false, arrival := 3000 }

def own (q : Byte) : OwnMessage := { kind := .answer, sequence := q, target := 2, payload := [1, 2, 0] }

def entry0 : Publication :=
  { sequence := 117, kind := .cue, slot := 0, replay := false, localRefusal := false, attempt := 1, onRing := true,
    sent := some 2996, target := 0, payload := [] }

def peer (id : NodeId) (hop : BitVec 6) (silence : Nat) : Peer :=
  { id := id, hop := hop, range := none, stepLength := none, interval := none, firstHeard := 2000, lastHeard := 2000,
    silence := silence, silent := false }

/-- A message of each known kind, and a REQUEST of each selector, with its row. -/
def rows : List (Instr × Message) :=
  [(.beacon, message 1 (List.replicate 16 0)), (.join, message 2 (List.replicate 6 0)),
    (.cue, message 3 cue7.payload), (.release, message 4 (releasePayload 12 5 { step := 3010, fade := 4 })),
    (.clear, message 5 [7, 0, 0, 0, 9]), (.answer, message 7 [1, 2, 3]), (.readStatus, message 6 [1, 24]),
    (.readCounters, message 6 [2, 3]), (.readCue, message 6 [3, 111]), (.readPeer, message 6 [4, 61]),
    (.readChannel, message 6 [5, 63]), (.clearCounters, message 6 [6, 0]), (.restart, message 6 [7, 0]),
    (.badSelector, message 6 [8, 0])]

/-! ### Well-formed commands -/

theorem test_illformed_record : Instr.wf (.loadComplete (List.replicate 339 0)) = false := by decide +kernel

theorem test_illformed_start : Instr.wf (.receptionStart (List.replicate 51 0)) = false := by decide

theorem test_illformed_abort : Instr.wf (.receptionAborted (.start (List.replicate 51 0))) = false := by decide

theorem test_wellformed :
    Instr.wf (.receptionStart (List.replicate 50 0)) = true ∧ Instr.wf (.receptionAborted .idle) = true ∧
      Instr.wf (.triggerSample 4 true) = true := by decide

theorem test_no_word_spells_a_command : decodeTableWord 8 0 = none ∧ decodeTableWord 32 77 = none := by decide

/-! ### Bytes -/

/-- The check value of the CRC of R188 over the digits 1 to 9 is 29B1h. -/
theorem test_crc : crc16 [0x31, 0x32, 0x33, 0x34, 0x35, 0x36, 0x37, 0x38, 0x39] = 0x29B1#16 := by decide +kernel

/-- Header bytes written out from R187: BEACON, origin 7, target 5, hop 61. -/
theorem test_header :
    (Message.bytes { message 1 (List.replicate 16 0) with hop := 61 }).take 16 =
      [0x10, 7, 5, 9, 61, 0, 0, 16, 0, 0, 0x0B, 0xB8, 0x01, 0x90, 0, 0] := by decide +kernel

/-- CUE bytes written out from R189: revision 5 with priority 2, HIGHEST from 96, GRADIENT to 103, L0 10, L1 1000, D 0,
start 3004, KEEP with an end step, end 3100. -/
theorem test_cue_payload :
    cue7.payload =
      [12, 0x52, 0x40, 96, 0xC0, 103, 0x00, 0xA3, 0xE8, 0, 0, 0, 0, 0x0B, 0xBC, 0x40, 0, 0, 0x0C, 0x1C] := by
  decide +kernel

/-- A record with every field of R191 at a value of its range; bytes 338 and 339 are its CRC. -/
def recordBody : List Byte :=
  [5, 0, 100, 8, 0x03, 0xE8, 4, 1, 4, 8, 8, 0, 24, 0x80, 0x04, 0xB0, 16, 20] ++ List.replicate 320 0

def recordOf (body : List Byte) : List Byte := body ++ be16 (crc16 body)

/-! ### The spec's worked examples -/

/-- Spec 2.10: the five entries at the pass for 5010. -/
def view210 : List LiveEntry :=
  let entry := fun (o : NodeId) (n : Byte) (p : BitVec 4) (first last : Channel) (b : Blend) (f : LevelFunction)
      (l0 l1 : Level) (d : BitVec 16) (start : StepNo) (r : Option FadeOut) (phase : EntryPhase) =>
    ({ cue := { origin := o, number := n, revision := 0, priority := p, first := first, last := last, blend := b,
                function := f, l0 := l0, l1 := l1, d := d, start := start, stop := none, orphan := .keep }
       release := r, phase := phase, late := false, arrival := 0 } : LiveEntry)
  [entry 12 2 15 300 363 .replace .fixed 4095 0 0 5012 none .pending,
    entry 7 30 9 300 363 .scale .alternate 4095 2048 4 4998 (some { step := 5008, fade := 8 }) .fading,
    entry 9 1 5 330 345 .replace .ramp 3000 1000 20 5000 none .active,
    entry 3 5 5 320 359 .highest .gradient 0 3900 0 5000 none .active,
    entry 7 12 2 300 363 .replace .fixed 1000 0 0 4000 none .active]

theorem test_composition :
    [300, 320, 330, 339, 345, 350, 359, 363].map (composedLevel view210 5010) =
      [375, 375, 750, 750, 750, 1125, 1462, 375] ∧ OutputCurve.duty .square 750 = 137 := by decide +kernel

/-- Spec 4.9: a window that wraps, and one that does not. -/
theorem test_edge_window :
    let p : PulseUnit := { PulseUnit.reset with running := true, active := List.replicate 10 0 ++ [4000] }
    let c := { config with stagger := 16 }
    [0, 63, 64, 159, 160, 4095].map (fun k => ({ p with counter := k } : PulseUnit).output c 10) =
      [true, true, false, false, true, true] := by decide +kernel

/-- Spec 3.8: an UNSET node is set; a lead of 160 is a jump; a trim crosses into the next step; the bound limits one. -/
theorem test_time :
    let s := { node .listen with config := { config with stationId := 6 } }
    let heard := fun (step : StepNo) (phase transit : BitVec 16) =>
      { message 3 (List.replicate 16 0) with stampStep := step, stampPhase := phase, transit := transit }
    (let t := ((unset s).adopt (heard 8999 440 0)).time
     (t.step, t.phase, t.isSet) = (8999, 452, true)) ∧
    (let t := ((atStep 8999 (atPhase 817 s)).adopt (heard 8999 950 15)).time
     (t.step, t.phase) = (8999, 977)) ∧
    (let t := ((atStep 9040 (atPhase 996 s)).adopt (heard 9040 990 0)).time
     (t.step, t.phase, t.trimUsed) = (9041, 2, 2)) ∧
    (let t := ({ s with time := { step := 9041, phase := 500, isSet := true, trimUsed := 2, running := true } }
        : State).adopt (heard 9041 612 0)
     (t.time.step, t.time.phase, t.time.trimUsed, t.counters.trim, t.counters.trimLimited) =
       (9041, 623, 125, 1, 1)) := by decide +kernel

/-- Spec 7.14: transit 15, 47 and 62 along the ring. -/
theorem test_transit :
    let m := message 3 (List.replicate 16 0)
    let leaves := fun (transit : BitVec 16) (wait : Nat) =>
      ((({ node .ring with now := 100 + wait } : State).departing { message := { m with transit := transit }, tick := 100 })
        false).transit
    (leaves 0 3, leaves 15 20, leaves 47 3) = (15, 47, 62) := by decide +kernel

/-- Spec 1.10: a RELEASE that comes before its CUE makes the CUE a duplicate; the other order replaces twice. -/
theorem test_either_order :
    let s := withSlots [.live { live7 with cue := { cue7 with revision := 4 } }] (node .ring)
    let f : FadeOut := { step := 3020, fade := 0 }
    ((s.takeRelease 7 12 5 f true).1 = .replaced ∧
      ((s.takeRelease 7 12 5 f true).2.takeCue cue7 true).1 = .duplicate) ∧
    ((s.takeCue cue7 true).1 = .replaced ∧ ((s.takeCue cue7 true).2.takeRelease 7 12 5 f true).1 = .replaced) ∧
    slotAtPass 3020 (.live { live7 with release := some f }) =
      .tombstone { origin := 7, number := 12, revision := 5, step := 3020 } ∧
    freeOldTombstone 3276 (.tombstone { origin := 7, number := 12, revision := 5, step := 3020 }) = .free := by
  decide +kernel

/-- Spec 1.11: of the tombstones of 2031 the lower slot is taken; a table of LIVE entries gives none. -/
theorem test_full_table :
    let grave := fun (n : StepNo) => Slot.tombstone { origin := 3, number := 40, revision := 0, step := n }
    obtainSlot (List.replicate 10 (.live live7) ++ [grave 2040] ++ List.replicate 11 (.live live7) ++ [grave 2031] ++
      List.replicate 12 (.live live7) ++ [grave 2031]) = some 22 ∧
    obtainSlot (List.replicate 48 (.live live7)) = none := by decide +kernel

/-- Spec 7.15: at a guard count of 16 the own message is granted; before it the forwarded one. -/
theorem test_guard :
    let s := waiting [{ message := message 3 (List.replicate 16 0), tick := 0 }] (queueing [own 90] (node .ring))
    let t := after (.grant false) { s with ring := { s.ring with guardCount := 16 } }
    (after (.grant false) s).ring.guardCount = 1 ∧ (after (.grant false) s).ring.sendQueue.length = 1 ∧
      t.ring.guardCount = 0 ∧ t.ring.sendQueue = [] ∧ t.ring.recent = [90] ∧ t.ring.insertion.length = 1 := by
  decide +kernel

/-- Spec 10.7: RESTART behind a READ waits for its ANSWER; with the queue full it is performed at once. -/
theorem test_restart :
    let request := fun (s : State) => receiving (message 6 [7, 0]).bytes s
    let t := after .restart (request (queueing (List.replicate 7 (own 1)) (node .ring)))
    let u := after .restart (request (queueing (List.replicate 8 (own 1)) (node .ring)))
    t.controller.restartPending = some 0 ∧ t.controller.state = .ring ∧ t.ring.sendQueue.length = 8 ∧
      u.controller.state = .listen ∧ u.counters.answerLost = 1 ∧ u.ring.sendQueue = [] ∧ u.ring.insertion.length = 1 := by
  decide +kernel

/-- Spec 5.7: the fourth disagreeing sample is the edge, and a TOGGLE of an IDLE slot is settled as a START. -/
theorem test_trigger :
    let ready := fun (count : Nat) =>
      { node .ring with
        trigger :=
          { (node .ring).trigger with
            countdown := 0
            inputs := (TriggerUnit.reset.inputs.set 2 { level := false, count := count, capture := none }) } }
    (after (.triggerSample 4 false) (ready 2)).trigger.inputs[2]? = some { level := false, count := 3, capture := none } ∧
    (let t := after (.triggerSample 4 false) (ready 3)
     t.trigger.inputs[2]? =
       some { level := true, count := 0,
              capture := some { edge := .rise, step := 3000, phase := 500, isSet := true } } ∧
     (t.originSlot 0).state = .live ∧ (t.originSlot 0).start = some 3002 ∧ (t.originSlot 0).stop = some 3052 ∧
     t.counters.published = 1 ∧ liveCount t.table = 1) := by decide +kernel

/-- Spec 8.9: the order of a roster and the ring-size estimate. -/
theorem test_roster :
    let heard := fun (s : State) (o : NodeId) (hop : BitVec 6) =>
      s.rosterTake { message 7 [0, 0, 0] with origin := o, hop := hop }
    let t := heard (heard (heard (node .listen) 7 2) 25 4) 12 1
    (t.roster.map Peer.id, t.ringSize) = ([12, 7, 25], 5) ∧ (heard t 25 3).ringSize = 4 := by decide +kernel

/-- The answer to READ STATUS of origin slot 0, byte for byte (R190): LIVE at revision 3, an end step, DELIVERED with
seen 5. -/
theorem test_read_slot :
    let o : OriginSlot :=
      { state := .live, revision := 3, start := some 3002, stop := some 3052, release := none, replay := false,
        outcome := .delivered, counts := some (5, 0) }
    ({ node .ring with origins := [o] } : State).readStatusData 1 =
      [0x43, 0x90, 0x10, 0, 0, 0x0B, 0xBA, 0, 0, 0x0B, 0xEC, 0, 0, 0, 0, 0, 0, 5, 0] := by decide +kernel

/-- A place that GRANT frees (R129): the ANSWER that comes before PLACE_WAITING_ENTRIES takes it, and is lost after it. -/
theorem test_one_free_place :
    let s := { queueing (List.replicate 8 (own 1)) (receiving (message 6 [1, 0]).bytes (node .ring)) with
      publications := [{ entry0 with onRing := false, sent := none }] }
    let queue := fun (s : State) => s.ring.sendQueue.drop 7 |>.map OwnMessage.kind
    let t := after .readStatus (after (.grant false) s)
    let u := after .readStatus (after .placeWaitingEntries (after (.grant false) s))
    (queue t, t.publications.map Publication.onRing, t.counters.answerLost) = ([.answer], [false], 0) ∧
      (queue u, u.publications.map Publication.onRing, u.counters.answerLost) = ([.cue], [true], 1) := by
  decide +kernel

/-- The same of a BEACON that the boundary of that moment makes due (R176). -/
theorem test_beacon_before_entry :
    let s := { queueing (List.replicate 8 (own 1)) (atPhase 999 (node .ring)) with
      publications := [{ entry0 with onRing := false, sent := none }] }
    let t := after .placeWaitingEntries (after .beaconDue (after .ordinaryAdvance (after (.grant false) s)))
    let u := after .beaconDue (after .ordinaryAdvance (after .placeWaitingEntries (after (.grant false) s)))
    (t.counters.beaconSkipped, t.counters.published) = (0, 0) ∧
      (u.counters.beaconSkipped, u.counters.published) = (1, 1) := by decide +kernel

/-- A node in LISTEN at the tick that ends it, with a RESTART received. -/
def endingListen : State :=
  let s := receiving (message 6 [7, 0]).bytes (atPhase 999 (node .listen))
  { s with controller := { s.controller with listenCount := 7 } }

/-- What a RESTART at the end of LISTEN shows. -/
structure RestartShows where
  state        : NodeState
  listenCount  : Nat
  queue        : List OwnKind
  joinAttempts : Count
  answerLost   : Count
  pending      : Option Byte
  deriving DecidableEq

def restartShows (t : State) : RestartShows :=
  ⟨t.controller.state, t.controller.listenCount, t.ring.sendQueue.map OwnMessage.kind, t.counters.joinAttempts,
    t.counters.answerLost, t.controller.restartPending⟩

/-- A RESTART at the boundary that ends LISTEN (R170): first, and the boundary counts 1; after it, and the JOIN that was
placed is gone from the queue. In both the ANSWER is lost and the node is in LISTEN. -/
theorem test_restart_at_the_end_of_listen :
    let ended := after .listenEnd (after .ordinaryAdvance endingListen)
    [after .restart (after .ordinaryAdvance endingListen), ended, after .restart ended].map restartShows =
      [⟨.listen, 1, [], 0, 1, none⟩, ⟨.admitting, 8, [.join], 1, 0, none⟩, ⟨.listen, 0, [], 1, 1, none⟩] := by
  decide +kernel

/-- When the moment at which LISTEN ended is over, a RESTART is answered in ADMIT (R184). -/
theorem test_restart_after_the_end_of_listen :
    restartShows (after .restart (after (.grant false) (after .listenEnd (after .ordinaryAdvance endingListen)))) =
      ⟨.admitting, 8, [.answer], 1, 0, some 1⟩ := by decide +kernel

/-- With the boundary between capture and admission, a pass at its bound completes and a DARK cycle start is taken before
the tick (R29, R73, R92). -/
theorem test_boundary_between :
    let s := { atPhase 999 (node .ring) with
      trigger := { (node .ring).trigger with countdown := 0 }
      pulse := { (node .ring).pulse with active := List.replicate 64 9, cycleDue := true, live := false }
      composer := { Composer.reset with
        pass := some { target := 3000, progress := 0, failsafe := true, view := [], age := 124 } } }
    let t := after (.triggerSample 0 true) s
    t.time.step = 3001 ∧ t.counters.passAborted = 0 ∧ t.composer.record[0]? = some { level := 1200, duty := 1200 } ∧
      t.pulse.active = List.replicate 64 0 ∧ t.pulse.zeroed = true := by decide +kernel

/-- A JOIN makes the entry of its origin anew, whatever its length (R139, R144). -/
theorem test_join_of_another_length :
    let s := { node .ring with roster := [{ peer 7 3 5 with stepLength := some 2000 }] }
    ((s.rosterTake { message 2 [1] with hop := 2 }).roster.map fun p => (p.id, p.firstHeard, p.stepLength)) =
      [(7, 3000, none)] := by decide +kernel

/-- The read of R192: SCS low, SCK low in the first half of a cycle and high in the second, SDO high in cycles 6 and 7
alone; after 2744 cycles SCK is low, and LOAD_COMPLETE, turned away before, is taken. -/
theorem test_read_sequence :
    let s := fun (n : Nat) => { State.reset with resetHeld := false, loader := .reading n }
    ((s 6).scsPin, (s 6).sckPin false, (s 6).sckPin true, (s 6).sdoPin) = (false, false, true, true) ∧
      (List.range 24).filter (fun n => (s n).sdoPin) = [6, 7] ∧
      ((s 2744).scsPin, (s 2744).sckPin true, (s 2744).sdoPin) = (false, false, false) ∧
      (State.reset.scsPin, State.reset.sckPin true, State.reset.sdoPin) = (true, false, false) ∧
      after (.loadComplete []) (s 2743) = s 2743 ∧
      (after (.loadComplete []) (s 2744)).controller.state = .unconfigured := by decide +kernel

/-! ### Witnesses: states and operands that meet the hypotheses of each obligation -/

theorem witness_StepTakesTheFrontCommand :
    ({ node .ring with pending := [.beacon, .grant false] } : State).pending = .beacon :: [.grant false] := by decide

/-- What a clock has reached: a cycle start; a pass that has had 124 ticks; a sample. -/
def atCycle (s : State) : State := { s with pulse := { s.pulse with cycleDue := true } }
def atBound (age : Nat) (s : State) : State :=
  { s with
    composer :=
      { s.composer with
        pass := some { target := 3000, progress := 0, failsafe := false, view := [], age := age } } }
def atSample (s : State) : State := { s with trigger := { s.trigger with countdown := 0 } }

/-- The premises on the clocks, in the order in which they are taken. -/
abbrev clocks (s : State) (cycle bound sample : Bool) : Prop :=
  (s.pulse.running && s.pulse.cycleDue) = cycle ∧
    (s.composer.pass.map fun p => decide (124 ≤ p.age)).getD false = bound ∧ s.sampleDue = sample

theorem witness_EmptyQueueIsOneTick :
    let meets := fun (s : State) => s.pending = [] ∧ s.quiet
    (meets (atCycle (node .ring)) ∧ clocks (atCycle (node .ring)) true false false) ∧
      (meets (atBound 124 (node .ring)) ∧ clocks (atBound 124 (node .ring)) false true false) ∧
      (meets (atSample (node .ring)) ∧ clocks (atSample (node .ring)) false false true ∧
        0 < (node .ring).config.sampleInterval) ∧
      (meets (atPhase 999 (node .ring)) ∧ (atPhase 999 (node .ring)).time.running = true ∧
        (node .ring).config.stepLength ≤ 999 + 1) ∧
      (meets (atBound 123 (atPhase 998 (node .ring))) ∧ clocks (atBound 123 (atPhase 998 (node .ring))) false false false ∧
        998 + 1 < (node .ring).config.stepLength) ∧
      (meets State.reset ∧ clocks State.reset false false false ∧ State.reset.time.running = false) := by
  decide +kernel

theorem witness_EveryCommandAnswers :
    exec .cycleStart State.reset = .next State.reset ∧ Instr.cycleStart ≠ .fullReset ∧
      (∀ r, Instr.cycleStart ≠ .loadComplete r) ∧ Instr.cycleStart ≠ .resetRelease :=
  ⟨rfl, by decide, fun _ h => (by cases h), by decide⟩

theorem witness_ResetCommands :
    State.reset.resetHeld = true ∧ (node .ring).resetHeld = false ∧ (node .ring).ring.mode = .storeAndForward ∧
      State.reset.ring.mode = .passThrough := by decide

/-- The record passes every check, with template 0 valid, template 1 a repeat of its number, and binding 0 of template 0. -/
theorem witness_RecordChecks_loaded :
    let template : List Byte := [0x84, 12, 2, 0, 100, 0, 103, 0, 0, 3, 232, 0, 20, 0, 0, 2, 0, 20]
    let r := recordOf (recordBody.take 18 ++ template ++ template ++ List.replicate 252 0 ++ [0xD2, 0] ++
      List.replicate 30 0)
    r.length = 340 ∧
      (loadRecord r).map (fun c => (c.templates.map Option.isSome, c.bindings.map Option.isSome)) =
        some (true :: List.replicate 15 false, true :: List.replicate 15 false) := by decide +kernel

theorem witness_RecordChecks :
    (recordBody ++ [0, 0]).length = 340 ∧ (List.replicate 340 (0xFF : Byte)).length = 340 ∧
      loadRecord (List.replicate 340 0xFF) = none ∧ 62 < (byteAt (recordBody.set 0 63) 0).toNat := by decide +kernel

/-- One record is refused, one passes every check; 2743 cycles and 2744. -/
theorem witness_LoadCompleteEndsLoading :
    State.reset.loader = .idle ∧ (after .resetRelease State.reset).loader = .reading 0 ∧
      (Loader.reading 2743).tick = .reading 2744 ∧ (Loader.reading 2744).tick = .reading 2744 ∧
      loadRecord (List.replicate 340 0xFF) = none ∧ (loadRecord (recordOf recordBody)).isSome = true := by
  decide +kernel

theorem witness_ReceptionEvents :
    (List.replicate 50 (0 : Byte)).length ≤ 50 ∧
      ((node .ring).ring.mode = .storeAndForward ∧ (node .ring).ring.receive = none) ∧
      ((receiving (List.replicate 50 0) (node .ring)).holds (List.replicate 50 0) ∧
        (receiving (List.replicate 49 0) (node .ring)).holds (List.replicate 49 0)) ∧
      (State.reset.ring.mode = .passThrough ∧ State.reset.controller.state.takesPart = false) ∧
      NodeState.listen.takesPart = true ∧
      ((node .ring).ring.transmitter = .idle ∧
        (sending (.forwarding [1]) (node .ring)).ring.transmitter = .forwarding [1] ∧
        (sending (.sendingOwn .cue 9 [1]) (node .ring)).ring.transmitter = .sendingOwn .cue 9 [1]) := by decide +kernel

/-- 17 bytes; a bad CRC; a length that does not fit, or an origin of 63; a length of 32 that fits; a hop count of 62. -/
theorem witness_FailedChecksDiscard :
    let s := fun (b : List Byte) => receiving b (node .ring)
    let bad := fun (b : List Byte) => b ++ be16 (crc16 b)
    let m := { message 1 (List.replicate 16 0) with hop := 62 }
    let long := bad ([0x10, 7, 5, 9, 0, 0, 0, 33] ++ List.replicate 41 0)
    let short := bad ([0x10, 7, 5, 9, 0, 0, 0, 15] ++ List.replicate 24 0)
    let ours := bad ([0x10, 63, 5, 9, 0, 0, 0, 0] ++ List.replicate 8 0)
    let most := bad ([0x10, 7, 5, 9, 0, 0, 0, 32] ++ List.replicate 40 0)
    (rowEndsReception .beacon = true ∧ (s m.bytes).doneBefore .beacon ∧ (s m.bytes).holds m.bytes) ∧
    (List.replicate 17 (0 : Byte)).length < 18 ∧
    (18 ≤ (List.replicate 18 (0 : Byte)).length ∧
      crc16 ((List.replicate 18 (0 : Byte)).take 16) ≠ word16At (List.replicate 18 0) 16) ∧
    (crc16 (long.take (long.length - 2)) = word16At long (long.length - 2) ∧ 32 < payloadLengthField long) ∧
    (crc16 (short.take (short.length - 2)) = word16At short (short.length - 2) ∧
      16 + payloadLengthField short + 2 ≠ short.length) ∧
    (most.length = 16 + 32 + 2 ∧ crc16 (most.take 48) = word16At most 48 ∧ payloadLengthField most = 32 ∧
      (byteAt most 1).extractLsb' 0 6 ≠ 63#6) ∧
    (ours.length = 18 ∧ crc16 (ours.take 16) = word16At ours 16 ∧ (byteAt ours 1).extractLsb' 0 6 = 63#6) ∧
    (acceptance m.bytes = .accepted m ∧ (s m.bytes).rowOf m = .beacon ∧ (s m.bytes).stripped m = false ∧
      62 ≤ m.hop.toNat) := by decide +kernel

theorem witness_MessagesAreReadAsWritten :
    let m := { message 3 (List.replicate 32 0xA5) with origin := 62 }
    let c := { cue7 with first := 103, function := .ramp, d := 1 }
    (m.payload.length ≤ 32 ∧ m.origin ≠ 63#6 ∧ acceptance m.bytes = .accepted m) ∧
      c.first.toNat ≤ c.last.toNat ∧ c.d ≠ 0#16 ∧ (cueOfPayload 7 cue7.payload).isSome = true ∧
      (message 3 c.payload).kind = 3#4 ∧ (message 4 (releasePayload 1 2 { step := 3, fade := 4 })).kind = 4#4 := by
  decide +kernel

/-- Each row of a message of known kind, with a hop count of 61; what waits for room may be due, and before a RESTART the
end of LISTEN. -/
theorem witness_KnownMessagesAreHandled :
    ∀ x ∈ rows, let m := { x.2 with hop := 61 }
      let s := { receiving m.bytes (node .ring) with
        due := { Due.none with entries := true, joinPlace := true, listenEnd := x.1 == Instr.restart } }
      (rowContent x.1).isSome = true ∧ s.doneBefore x.1 ∧ s.holds m.bytes ∧ acceptance m.bytes = .accepted m ∧
        s.rowOf m = x.1 ∧ m.hop.toNat < 62 ∧ m.lengthAllowed = true := by decide +kernel

/-- Stripped in ISOLATED and not in CLASH; the kinds and selectors next to those of a row. -/
theorem witness_KnownMessagesAreHandled_rows :
    let m := { message 2 [] with origin := 5 }
    ((node .isolated).stripped m = true ∧ (node .clash).stripped m = false) ∧
      ([0, 1, 7, 8, 15].map fun k => (node .ring).rowOf (message k [])) =
        [.unknownKind, .beacon, .answer, .unknownKind, .unknownKind] ∧
      ([0, 1, 7, 8, 255].map fun b => (node .ring).rowOf (message 6 [b, 0])) =
        [.badSelector, .readStatus, .restart, .badSelector, .badSelector] := by decide +kernel

theorem witness_KnownMessagesAreHandled_overflow :
    let m := message 1 []
    let s := receiving m.bytes (waiting (List.replicate 4 { message := m, tick := 0 }) (node .ring))
    s.doneBefore .beacon ∧ s.holds m.bytes ∧ acceptance m.bytes = .accepted m ∧ s.rowOf m = .beacon ∧
      m.lengthAllowed = false ∧
      4 ≤ s.ring.insertion.length ∧ (after .beacon s).counters.forwardOverflow = 1 := by decide +kernel

theorem witness_UnknownKindIsForwarded :
    let m := { message 8 [] with hop := 61 }
    let s := receiving m.bytes (node .ring)
    let full := waiting (List.replicate 4 { message := m, tick := 0 }) s
    (s.momentDone ∧ s.holds m.bytes ∧ acceptance m.bytes = .accepted m ∧ s.rowOf m = .unknownKind ∧ m.hop.toNat < 62) ∧
      s.ring.insertion.length < 4 ∧ 4 ≤ full.ring.insertion.length ∧ full.holds m.bytes := by decide +kernel

theorem witness_MessageRowsFrame :
    rowEndsReception .cue = true ∧
      ∃ t, exec .cue (receiving (message 3 cue7.payload).bytes (node .ring)) = .next t ∧ t.counters.admitted = 1 :=
  ⟨by decide, _, rfl, by decide +kernel⟩

/-- Not judged in LISTEN and in the grace; judged with one age listed and with two; the ages due. -/
theorem witness_StrayEchoes :
    let m := { message 1 (List.replicate 16 0) with origin := 5 }
    let s := fun (n : NodeState) (grace : Nat) (ages : List Nat) =>
      let up := receiving m.bytes (node n)
      { up with controller := { up.controller with grace := grace, strayAges := ages } }
    let meets := fun (s : State) => s.momentDone ∧ s.holds m.bytes ∧ acceptance m.bytes = .accepted m ∧
      m.origin = s.ownId ∧ s.controller.state.strips = true ∧ m.sequence ∉ s.ring.recent
    (meets (s .listen 4 []) ∧ NodeState.listen.sendsOwn = false) ∧ meets (s .ring 1 []) ∧
    (meets (s .ring 0 [63]) ∧ NodeState.ring.sendsOwn = true) ∧ meets (s .isolated 0 [63, 0]) ∧
    (let due := { node .ring with due := { Due.none with strayAges := true } }
     due.due.strayAges = true ∧ due.controller.state.strips = true) ∧ (node .ring).due.strayAges = false ∧
    NodeState.clash.strips = false := by decide +kernel

theorem witness_Returns :
    let m := { message 2 (List.replicate 6 0) with origin := 5 }
    let s := fun (n : NodeState) (joins : List Byte) =>
      let up := receiving m.bytes (node n)
      { up with ring := { up.ring with recent := [9] }, controller := { up.controller with joinSequences := joins } }
    let meets := fun (s : State) => s.momentDone ∧ s.holds m.bytes ∧ acceptance m.bytes = .accepted m ∧
      m.origin = s.ownId ∧ s.controller.state.sendsOwn = true ∧ m.sequence ∈ s.ring.recent
    let queued := fun (s : State) => ((receiving [] s).publicationReturn m).ring.sendQueue.length
    let full := queueing (List.replicate 8 (own 1)) (s .isolated [])
    (meets (s .admitting [8, 9]) ∧ m.sequence ∈ (s .admitting [8, 9]).controller.joinSequences ∧
        (s .admitting [8, 9]).resetHeld = false) ∧
      (meets (s .admitting [8]) ∧ m.sequence ∉ (s .admitting [8]).controller.joinSequences) ∧ meets (s .ring []) ∧
      (meets (s .isolated []) ∧ queued (s .isolated []) < 8) ∧ (meets full ∧ 8 ≤ queued full) := by decide +kernel

theorem witness_PublicationReturns :
    let other := { entry0 with slot := 1, sequence := 118 }
    let s := { node .ring with publications := [other, entry0] }
    let m := { message 3 [] with sequence := 117 }
    (∀ e ∈ (node .ring).publications, ¬ (e.sequence = m.sequence ∧ pubKindOf m.kind = some e.kind)) ∧
      s.publications.find? (fun e => e.sequence == m.sequence && some e.kind == pubKindOf m.kind) = some entry0 ∧
      entry0.slot < s.origins.length ∧ s.publicationsBounded ∧ other ∈ s.publications ∧ other.slot ≠ entry0.slot := by
  decide +kernel

theorem witness_GrantForwardsOrWaits :
    let w : Waiting := { message := message 1 [], tick := 0 }
    let s := waiting [w] (queueing [own 1] (node .ring))
    (State.reset.quiet ∧ State.reset.ring.mode = .passThrough) ∧
      ((sending (.forwarding []) (node .ring)).quiet ∧
        (sending (.forwarding []) (node .ring)).ring.transmitter ≠ .idle) ∧
      ((node .ring).ring.insertion = [] ∧ (node .ring).ring.sendQueue = []) ∧
      ((queueing [own 1] (node .clash)).ring.insertion = [] ∧ NodeState.clash.sendsOwn = false) ∧
      (s.quiet ∧ s.ring.mode = .storeAndForward ∧ s.ring.transmitter = .idle ∧ s.ring.insertion = w :: [] ∧
        (∀ g ≤ 15, ¬ (s.ring.sendQueue ≠ [] ∧ s.controller.state.sendsOwn = true ∧ 16 ≤ g))) := by decide +kernel

theorem witness_GrantSendsOwn :
    let s := queueing [own 1] (node .ring)
    let guarded := waiting [{ message := message 1 [], tick := 0 }] { s with ring := { s.ring with guardCount := 16 } }
    (s.quiet ∧ s.ring.mode = .storeAndForward ∧ s.ring.transmitter = .idle ∧ s.ring.sendQueue = own 1 :: [] ∧
      s.controller.state.sendsOwn = true ∧ s.ring.insertion = []) ∧
    (guarded.quiet ∧ guarded.ring.sendQueue = own 1 :: [] ∧ 16 ≤ guarded.ring.guardCount) := by decide +kernel

theorem witness_TransmissionEnds :
    let s := fun (n : NodeState) => sending (.sendingOwn .answer 9 [])
      { node n with controller := { (node n).controller with restartPending := some 9 } }
    (node .ring).ring.transmitter = .idle ∧ (sending (.forwarding [1]) (node .ring)).quiet ∧
      (sending (.sendingOwn .cue 9 []) (node .ring)).quiet ∧
      ((s .clash).quiet ∧ (s .clash).controller.state.strips = false) ∧
      ((s .ring).quiet ∧ (s .ring).ring.transmitter = .sendingOwn .answer 9 [] ∧
        (s .ring).controller.restartPending = some 9 ∧ (s .ring).controller.state.strips = true) := by decide +kernel

/-! Work left due: each mark set, and absent in `node`. -/

def due (d : Due) (s : State) : State := { s with due := d }

theorem witness_WaitingEntriesArePlaced :
    let mark := { Due.none with entries := true }
    (node .ring).due.entries = false ∧
      ((due mark (node .admitting)).due.entries = true ∧ NodeState.admitting.publishes = false) ∧
      (due mark (node .ring)).due.entries = true ∧ NodeState.ring.publishes = true ∧
      NodeState.isolated.publishes = true := by decide +kernel

theorem witness_WaitingJoinIsPlaced :
    let s := due { Due.none with joinPlace := true } (node .admitting)
    let w := { s with controller := { s.controller with joinWaiting := true } }
    (node .ring).due.joinExpiry = false ∧ (node .ring).due.joinPlace = false ∧
      (w.due.joinExpiry = false ∧ w.due.joinPlace = true ∧ w.controller.state = .admitting ∧
        w.controller.joinWaiting = true) ∧
      (queueing (List.replicate 7 (own 1)) w).ring.sendQueue.length < 8 ∧
      8 ≤ (queueing (List.replicate 8 (own 1)) w).ring.sendQueue.length ∧ s.controller.joinWaiting = false := by
  decide +kernel

/-- One step short of the sent step and a circuit limit of 4, and at it; attempts 2 and 3; the queue at 7 and at 8. -/
theorem witness_JoinExpires :
    let s := fun (attempt : Nat) =>
      let up := due { Due.none with joinExpiry := true } (node .admitting)
      { up with controller := { up.controller with joinAttempt := attempt, joinSent := some 2996 } }
    (s 2).due.joinExpiry = true ∧ (node .ring).due.joinExpiry = false ∧
      stepBefore (2999 : StepNo) (2996 + BitVec.ofNat 32 (s 2).config.circuitLimit) = true ∧
      stepAtOrAfter (s 2).time.step (2996 + BitVec.ofNat 32 (s 2).config.circuitLimit) = true ∧
      (s 2).controller.joinAttempt < 3 ∧ 3 ≤ (s 3).controller.joinAttempt ∧
      (queueing (List.replicate 7 (own 1)) (s 2)).ring.sendQueue.length < 8 ∧
      8 ≤ (queueing (List.replicate 8 (own 1)) (s 2)).ring.sendQueue.length := by decide +kernel

theorem witness_WatchExpires :
    let s := fun (n : NodeState) (misses : Nat) =>
      let up := due { Due.none with watch := true } (node n)
      { up with controller := { up.controller with missCount := misses, watch := some 2996 } }
    (s .ring 0).due.watch = true ∧ (node .ring).due.watch = false ∧ NodeState.listen.sendsOwn = false ∧
      stepBefore (2999 : StepNo) (2996 + BitVec.ofNat 32 (s .ring 0).config.circuitLimit) = true ∧
      stepAtOrAfter (s .ring 1).time.step (2996 + BitVec.ofNat 32 (s .ring 1).config.circuitLimit) = true ∧
      (s .ring 0).controller.missCount = 0 ∧ (s .admitting 2).controller.state ≠ .ring ∧
      ((s .ring 1).controller.state = .ring ∧ 1 ≤ (s .ring 1).controller.missCount) := by decide +kernel

theorem witness_ListenEnds :
    let s := fun (count : Nat) =>
      let up := due { Due.none with listenEnd := true } (unset (node .listen))
      { up with controller := { up.controller with listenCount := count } }
    (s 7).due.listenEnd = true ∧ (node .ring).due.listenEnd = false ∧
      (s 7).controller.listenCount < (s 7).config.listenLength ∧
      (s 8).config.listenLength ≤ (s 8).controller.listenCount ∧ (s 8).ring.sendQueue.length < 8 ∧
      8 ≤ (queueing (List.replicate 8 (own 1)) (s 8)).ring.sendQueue.length := by decide +kernel

/-- Silence just below and at 3 and 8 beacon intervals. -/
theorem witness_PeersFallSilentAndGo :
    let s := { due { Due.none with peerSilent := true, peerGone := true } (node .ring) with
      roster := [peer 1 1 23, peer 2 2 24, peer 3 3 63, peer 4 4 64] }
    (s.due.tombstones = false ∧ s.due.peerSilent = true ∧ s.due.peerGone = true ∧ (node .ring).due.peerSilent = false ∧
      (node .ring).due.peerGone = false) ∧
    (after .peerSilent s).roster.map Peer.silent = [false, true, true, false] ∧
    (after .peerGone s).roster.map Peer.id = [1, 2, 3] := by decide +kernel

theorem witness_BeaconsArePlacedOrSkipped :
    let s := fun (n : NodeState) => due { Due.none with beacon := true } (node n)
    (s .ring).due.tombstones = false ∧ (s .ring).due.beacon = true ∧ (node .ring).due.beacon = false ∧ NodeState.clash.publishes = false ∧
      (s .ring).controller.state.publishes = true ∧ (s .ring).ring.sendQueue.length < 8 ∧
      8 ≤ (queueing (List.replicate 8 (own 1)) (s .isolated)).ring.sendQueue.length := by decide +kernel

/-- An entry times out at attempts 1 and 3 (spec 6.9). -/
theorem witness_PublicationsTimeOut :
    let s := fun (attempt : Nat) => { due { Due.none with publications := true } (node .ring) with
      publications := [{ entry0 with attempt := attempt }] }
    (s 1).due.publications = true ∧ (node .ring).due.publications = false ∧
      (after .publicationTimeout (s 1)).publications.map Publication.attempt = [2] ∧
      (after .publicationTimeout (s 3)).publications = [] ∧ (after .publicationTimeout (s 3)).counters.failed = 1 := by
  decide +kernel

theorem witness_OldTombstonesAreFreed :
    let grave := fun (n : StepNo) => Slot.tombstone { origin := 3, number := 40, revision := 0, step := n }
    let s := withSlots [grave 2744, grave 2745] (due { Due.none with tombstones := true } (node .ring))
    s.due.tombstones = true ∧ (node .ring).due.tombstones = false ∧
      (after .tombstoneFreed s).table = (withSlots [.free, grave 2745] s).table := by decide +kernel

/-- A state with every mark set, whose work is finished; and the rows it speaks of. -/
theorem witness_DueWorkIsFinishedFirst :
    let all : Due :=
      { tombstones := true, peerSilent := true, peerGone := true, publications := true, joinExpiry := true,
        joinPlace := true, watch := true, listenEnd := true, listenEnded := true, strayAges := true, beacon := true,
        entries := true }
    let s := due all (node .ring)
    let left := { Due.none with joinPlace := true, entries := true, listenEnded := true }
    s.pending = [] ∧ s.due.joinPlace = true ∧ s.settle.due = Due.none ∧ s.settleMoment.due = left ∧
      s.settleBoundary.due = { left with listenEnd := true } ∧
      s.settle.counters.beaconSkipped = 0 ∧ s.settle.ring.sendQueue.length = 1 ∧
      rowEndsReception .cue = true ∧ Instr.cue ≠ .restart := by decide +kernel

theorem witness_OrdinaryAdvance :
    let marks := { Due.none with entries := true, joinPlace := true, listenEnded := true }
    let s := fun (p : Nat) => due marks (atPhase p (node .ring))
    (s 998).momentDone ∧ (s 998).time.phase + 1 < (s 998).config.stepLength ∧ State.reset.time.running = false ∧
      ((s 999).momentDone ∧ (s 999).time.running = true ∧ (s 999).config.stepLength ≤ (s 999).time.phase + 1 ∧
        clocks (s 999) false false false) ∧
      ((atCycle (s 999)).momentDone ∧ clocks (atCycle (s 999)) true false false) ∧
      ((atBound 124 (s 999)).momentDone ∧ clocks (atBound 124 (s 999)) false true false) ∧
      ((atSample (s 999)).momentDone ∧ clocks (atSample (s 999)) false false true ∧
        0 < (s 999).config.sampleInterval ∧ (atSample (atPhase 999 (node .ring))).quiet) := by decide +kernel

theorem witness_BoundaryStartsAPass :
    (node .ring).time.isSet = true ∧ (node .ring).controller.state.takesPart = true ∧
      (unset (node .listen)).time.isSet = false ∧ State.reset.controller.state.takesPart = false := by decide

/-- Before and at the start step; at the end step; before, at and past a release with a fade of 20; and the number
halfway round the circle, which is neither before nor at or after. -/
theorem witness_PassStartBringsEntriesUp :
    let r : FadeOut := { step := 3020, fade := 20 }
    let ends := r.step + r.fade.setWidth 32
    stepBefore 3003 cue7.start = true ∧ stepBefore 3004 cue7.start = false ∧
      stepBefore (cue7.start + 0x80000000) cue7.start = false ∧
      (cue7.stop.map (stepAtOrAfter 3100)).getD false = true ∧
      (cue7.stop.map (stepAtOrAfter 3099)).getD false = false ∧ stepAtOrAfter 3019 r.step = false ∧
      stepAtOrAfter 3020 r.step = true ∧ stepAtOrAfter 3039 ends = false ∧ stepAtOrAfter 3040 ends = true ∧
      live7.release = none := by decide +kernel

def pass0 (failsafe : Bool) : Pass :=
  { target := 5010, progress := 0, failsafe := failsafe, view := view210, age := 0 }

theorem witness_PassCompletes :
    let s := { node .ring with composer := { Composer.reset with pass := some (pass0 true) } }
    s.due.tombstones = false ∧ (node .ring).composer.pass = none ∧ s.composer.pass = some (pass0 true) := by
  decide +kernel

theorem witness_CompositionOrderAndRange :
    (∀ e ∈ view210.drop 1, stepAtOrAfter 5010 e.cue.start = true) ∧
      (∀ e ∈ view210, ¬ (e.phase ≠ .pending ∧ e.cue.first.toNat ≤ 299 ∧ 299 ≤ e.cue.last.toNat)) ∧
      config.failsafeLevel ≤ 4095 ∧ ({ level := 1200, duty := 1200 } : Composed) ∈ (pass0 true).results config ∧
      (view210.map fun e => e.cue.function) = [.fixed, .alternate, .ramp, .gradient, .fixed] ∧
      (view210[1]?.map fun e => (e.phase, e.release)) = some (.fading, some { step := 5008, fade := 8 }) := by
  decide +kernel

/-- A RAMP of 20 from 3000 to 1000: at 19 steps and at 20; rising and falling (R35). -/
theorem test_ramp :
    let q := { cue7 with function := .ramp, l0 := 3000, l1 := 1000, d := 20, start := 5000 }
    [q.unfaded 5019 0, q.unfaded 5020 0, ({ q with l0 := 1000, l1 := 3000 } : Cue).unfaded 5019 0] =
      [1100, 1000, 2900] := by decide +kernel

theorem witness_OutputCurves :
    4095 ≤ 4095 ∧ (1 ≤ 1 ∧ 63 ≤ 63) ∧ 7 < config.channelCount ∧ config.channelCount ≤ 8 ∧
      (pass0 true).failsafe = true ∧ OutputCurve.duty .square 63 = 0 := by decide +kernel

/-- Spec 4.8: the cycle start in LIVE and in DARK. -/
theorem witness_CycleStarts :
    let s := fun (live : Bool) =>
      { node .ring with pulse := { (node .ring).pulse with cycleDue := true, live := live } }
    State.reset.pulse.running = false ∧ (node .ring).pulse.cycleDue = false ∧
      ((s true).pulse.running = true ∧ (s true).pulse.cycleDue = true ∧ (s true).pulse.live = true) ∧
      (s false).pulse.live = false ∧ ∃ t, exec .cycleStart (s false) = .next t :=
  ⟨by decide, by decide, by decide, by decide, _, rfl⟩

theorem witness_HighCountsOfACycle :
    let p : PulseUnit := { PulseUnit.reset with running := true, active := [0, 1, 4094, 4095] }
    p.running = true ∧ 63 < 64 ∧ ({ config with stagger := 63 } : NodeConfig).stagger ≤ 63 ∧
      (p.active.getD 0 0 = 0 ∧ p.active.getD 1 0 = 1 ∧ p.active.getD 2 0 = 4094 ∧ p.active.getD 3 0 = 4095) ∧
      config.pwmMode = .edge ∧ ({ config with pwmMode := .centre } : NodeConfig).pwmMode = .centre ∧
      PulseUnit.reset.running = false := by decide +kernel

/-- The window of offset 1 with a stagger of 63 and a duty of 1 (R69), and of a duty of 1 in CENTRE mode (R70). -/
theorem test_windows :
    let p := fun (count : Nat) => ({ PulseUnit.reset with running := true, active := [0, 1], counter := count } : PulseUnit)
    let edge := { config with stagger := 63 }
    let centre := { edge with pwmMode := .centre }
    (((p 62).output edge 1, (p 63).output edge 1, (p 64).output edge 1) = (false, true, false)) ∧
      ((p 4093).output centre 1, (p 4094).output centre 1, (p 4095).output centre 1) = (false, true, true) := by
  decide +kernel

theorem witness_CounterMovesByCounts :
    let p := fun (counter : Nat) (up : Bool) => ({ PulseUnit.reset with counter := counter, up := up } : PulseUnit)
    ([1, 2, 4, 8].map fun divider => ({ config with clockDivider := divider } : NodeConfig).clockDivider) = [1, 2, 4, 8] ∧
      (p 4095 true).counter < 4096 ∧ 4095 < 4096 ∧ (p 4095 true).up = true ∧
      ((p 1 false).up = false → 1 ≤ (p 1 false).counter ∧ (p 1 false).counter ≤ 4094) ∧
      ((p 4094 false).up = false → 1 ≤ (p 4094 false).counter ∧ (p 4094 false).counter ≤ 4094) := by decide +kernel

/-- The lead of a stamp at each boundary of its ranges: none, half the circle, L/8, the tolerance and one more; and a trim
to L - 1 and to L. -/
theorem witness_AdoptionMovesTheTime :
    let s := node .ring
    let heard := fun (step : StepNo) (phase : BitVec 16) => { message 1 (List.replicate 16 0) with stampStep := step, stampPhase := phase }
    (500 ≤ s.config.stepLength ∧ s.time.phase < s.config.stepLength ∧ (unset s).time.isSet = false ∧
      s.time.isSet = true) ∧
    (s.lead (heard 3000 488) = 0 ∧ s.lead (heard (3000 + 0x80000000) 488) = 1000 * 2 ^ 31 ∧
      s.lead (heard (3000 + 0x7FFFFFFF) 488) < 1000 * 2 ^ 31 ∧ s.lead (heard 3000 613) = 125 ∧
      s.lead (heard 3000 612) = 124 ∧ s.lead (heard 3000 492) = s.config.tolerance ∧
      s.lead (heard 3000 493) = s.config.tolerance + 1) ∧
    ((atPhase 990 s).lead (heard 3000 987) = 9 ∧ (atPhase 990 s).lead (heard 3000 988) = 10) ∧
    (let m := heard 3000 999
     m.origin ≠ s.ownId ∧ s.controller.state.takesPart = true ∧ s.senderCompatible m.origin = true ∧
       m.transit ≠ 65535#16 ∧ m.stampPhase.toNat < s.config.stepLength) ∧
    (min 5 (1000 / 8 - 125) = 0 ∧ 1 ≤ min 5 (1000 / 8 - 124) ∧ min 5 (1000 / 8 - 124) < 5) ∧
    (s.stepOf (s.config.estimate (heard 3000 613)) = 3000 ∧ s.stepOf (s.config.estimate (heard 3001 613)) ≠ 3000) ∧
    s.config.stepLength ≤ (heard 3000 1000).stampPhase.toNat := by decide +kernel

theorem witness_SamplesAreFiltered :
    let s := { atPhase 999 (node .ring) with trigger := { (node .ring).trigger with countdown := 0 } }
    (node .ring).quiet ∧ (node .ring).sampleDue = false ∧ s.quiet ∧ s.sampleDue = true ∧ s.time.running = true ∧
      s.config.stepLength ≤ s.time.phase + 1 ∧ (atPhase 998 s).time.phase + 1 < s.config.stepLength := by
  decide +kernel

def capture0 : Capture := { edge := .rise, step := 3000, phase := 500, isSet := true }

/-- Eight entries of the slots 1 to 8. -/
def fullList : List Publication := (List.range 8).map fun i => { entry0 with slot := i + 1 }

theorem witness_LostActions :
    let s := { node .ring with publications := fullList }
    s.config.template 0 = some template0 ∧ ({ capture0 with isSet := false } : Capture).isSet = false ∧
      (node .clash).controller.state = .clash ∧ (s.originSlot 0).state ≠ .live ∧ 8 ≤ s.publications.length ∧
      (∀ e ∈ s.publications, e.slot ≠ 0) := by decide +kernel

/-- Room in a list of 7; no room but an entry of the slot in a list of 8. -/
theorem witness_StartsArePublished :
    let s := { node .ring with publications := fullList.take 7 }
    let t := { node .ring with publications := entry0 :: fullList.take 7 }
    s.config.template 0 = some template0 ∧ 0 < s.origins.length ∧ capture0.isSet = true ∧
      s.controller.state ≠ .clash ∧ s.publications.length < 8 ∧ ¬ t.publications.length < 8 ∧
      (∃ e ∈ t.publications, e.slot = 0) ∧ (s.originSlot 0).state ≠ .live ∧
      (∀ e ∈ s.publications, e.onRing = true ∧ e.slot ≠ 0) ∧
      (NodeState.ring.publishes = true ∧ (queueing (List.replicate 7 (own 1)) s).ring.sendQueue.length < 8) ∧
      8 ≤ (queueing (List.replicate 8 (own 1)) s).ring.sendQueue.length ∧ NodeState.listen.publishes = false := by
  decide +kernel

/-- A START in RING puts its CUE into the send queue at once. -/
theorem test_start_is_queued :
    let t := (node .ring).takeAction .start 0 capture0
    (t.ring.sendQueue.map fun o => (o.kind, o.sequence)) = [(.cue, 0)] ∧ t.counters.published = 1 ∧
      t.counters.admitted = 1 := by decide +kernel

def started : State :=
  let s := node .ring
  s.setOriginSlot 0 { OriginSlot.reset with state := .live, revision := 3, start := some 2990, replay := true }

theorem witness_ReleasesArePublished :
    started.config.template 0 = some template0 ∧ 0 < started.origins.length ∧ capture0.isSet = true ∧
      started.controller.state ≠ .clash ∧ started.publications.length < 8 ∧
      (started.originSlot 0).state = .live ∧ (∀ e ∈ started.publications, e.onRing = true ∧ e.slot ≠ 0) ∧
      (started.controller.state.publishes = true ∧ started.ring.sendQueue.length < 8) ∧
      8 ≤ (queueing (List.replicate 8 (own 1)) started).ring.sendQueue.length := by decide +kernel

theorem witness_ReplayAndSlotEnd :
    let idle := started.setOriginSlot 0 { OriginSlot.reset with replay := true }
    let full := { started with publications := fullList }
    ((node .ring).config.template 0 = some template0 ∧ ((node .ring).originSlot 0).replay = false) ∧
      ((idle.originSlot 0).replay = true ∧ (idle.originSlot 0).state = .idle) ∧
      ((full.originSlot 0).replay = true ∧ (full.originSlot 0).state ≠ .idle ∧ 8 ≤ full.publications.length ∧
        (∀ e ∈ full.publications, e.slot ≠ 0)) ∧
      ((started.originSlot 0).replay = true ∧ (started.originSlot 0).state ≠ .idle ∧
        started.publications.length < 8) := by decide +kernel

theorem witness_RosterTakesMessages :
    let m := message 2 (List.replicate 6 0)
    { m with origin := 5 }.origin = (node .ring).ownId ∧ m.origin ≠ (node .ring).ownId := by decide +kernel

theorem witness_SlotChoice :
    let grave := fun (n : StepNo) => Slot.tombstone { origin := 3, number := 40, revision := 0, step := n }
    let full := [Slot.live live7, grave 2031, grave 2040, grave 2031]
    let free := [Slot.live live7, .free, .free]
    ((∀ slot ∈ full, slot ≠ .free) ∧ full[1]? = some (grave 2031) ∧ obtainSlot full = some 1) ∧
      (stepAtOrAfter 3000 2040 = true ∧ stepAtOrAfter 2040 2031 = true) ∧
      (free[1]? = some .free ∧ free[0]? ≠ some .free) ∧ Slot.isLive (.live live7) = true := by decide +kernel

/-- The cases of a CUE by the held revision, at the differences 0, 1, 7 and 8; its end step at and after the current
step; inside and outside the owned range. -/
theorem witness_CuesAreJudged :
    let held := fun (r : Revision) => withSlots [.live { live7 with cue := { cue7 with revision := r } }] (node .ring)
    let full := { node .ring with table := List.replicate 48 (.live { live7 with cue := { cue7 with number := 1 } }) }
    let verdict := fun (s : State) (c : Cue) (b : Bool) => (s.takeCue c b).1
    let outside := { cue7 with first := 108, last := 200 }
    let expired := { cue7 with stop := some 3000 }
    (verdict (node .ring) cue7 false = .incompatible ∧ verdict (node .ring) cue7 true = .admitted ∧
      verdict (node .ring) { cue7 with stop := some 3001 } true = .admitted ∧
      verdict (node .ring) outside true = .outside ∧ verdict (node .ring) expired true = .expired ∧
      verdict full cue7 true = .refused) ∧
    (verdict (held 5) cue7 true = .duplicate ∧ verdict (held 4) cue7 true = .replaced ∧
      verdict (held 14) cue7 true = .replaced ∧ verdict (held 13) cue7 true = .stale ∧
      verdict (held 4) outside true = .outside ∧ verdict (held 4) expired true = .expired) ∧
    (cueOfPayload 7 [12, 0x52, 0xC0, 96, 0xC0, 103] = none ∧ cueOfPayload 7 cue7.payload = some cue7) ∧
    (findKey (held 5).table 7 12 = some 0 ∧ findKey (held 5).table 7 13 = none ∧
      findKey (held 5).table 8 12 = none) := by
  decide +kernel

theorem witness_ReleasesAreSettled :
    let f : FadeOut := { step := 3020, fade := 4 }
    let held := fun (r : Revision) (x : Option FadeOut) =>
      withSlots [.live { live7 with release := x, cue := { cue7 with revision := r } }] (node .ring)
    let grave := fun (r : Revision) =>
      withSlots [.tombstone { origin := 7, number := 12, revision := r, step := 2990 }] (node .ring)
    let full := { node .ring with table := List.replicate 48 (.live { live7 with cue := { cue7 with number := 1 } }) }
    let verdict := fun (s : State) (b : Bool) => (s.takeRelease 7 12 5 f b).1
    [verdict (node .ring) false, verdict (node .ring) true, verdict full true] = [.incompatible, .admitted, .refused] ∧
    [verdict (held 13 none) true, verdict (held 5 (some f)) true, verdict (held 5 none) true,
      verdict (held 14 (some f)) true] = [.stale, .duplicate, .replaced, .replaced] ∧
    [verdict (grave 13) true, verdict (grave 5) true, verdict (grave 14) true] = [.stale, .duplicate, .replaced] := by
  decide +kernel

theorem witness_ClearPurgeAndDrop :
    { message 2 [] with origin := 5 }.origin = (node .ring).ownId ∧ (message 2 []).origin ≠ (node .ring).ownId := by
  decide +kernel

/-- Each judgement of a REQUEST, at the ends of the index ranges; room for an ANSWER and none. -/
theorem witness_RequestsAreJudgedAndAnswered :
    let judge := fun (target : NodeId) (code index : Byte) =>
      (node .ring).judgeRequest { message 6 [code, index] with target := target }
    [judge 63 7 0, judge 63 6 0, judge 63 5 0, judge 63 8 0, judge 6 7 0] =
      [.acted, .acted, .ignored, .ignored, .notForUs] ∧
    [judge 5 0 0, judge 5 8 0, judge 5 1 24, judge 5 1 25, judge 5 2 3, judge 5 2 4] =
      [.answered .badSelector, .answered .badSelector, .acted, .answered .badIndex, .acted, .answered .badIndex] ∧
    [judge 5 3 47, judge 5 3 48, judge 5 3 63, judge 5 3 64, judge 5 3 111, judge 5 3 112] =
      [.acted, .answered .badIndex, .answered .badIndex, .acted, .acted, .answered .badIndex] ∧
    [judge 5 4 61, judge 5 4 62, judge 5 5 63, judge 5 5 64, judge 5 6 255, judge 5 7 255] =
      [.acted, .answered .badIndex, .acted, .answered .badIndex, .acted, .acted] ∧
    (unset (node .listen)).judgeRequest (message 6 [5, 63]) = .answered .notReady ∧
    (NodeState.ring.sendsOwn = true ∧ (queueing (List.replicate 7 (own 1)) (node .ring)).ring.sendQueue.length < 8) ∧
    (¬ (queueing (List.replicate 8 (own 1)) (node .ring)).ring.sendQueue.length < 8 ∧ NodeState.ring.strips = true ∧
      (node .clash).controller.state = .clash) ∧
    (let ended := due { Due.none with listenEnded := true } (node .admitting)
     ended.due.listenEnded = true ∧ ended.controller.state.strips = true ∧ (node .ring).due.listenEnded = false) := by
  decide +kernel

theorem witness_AnswerDataBytes :
    let s := { withSlots [.live live7, .tombstone { origin := 7, number := 12, revision := 5, step := 2990 }]
        (node .ring) with roster := [peer 1 1 0] }
    (s.table[0]? = some (.live live7) ∧ s.table[47]? = some .free ∧ s.roster[0]? = some (peer 1 1 0) ∧
      s.roster.length ≤ 1) ∧
    (s.controller.missCount < 4 ∧ s.controller.strayAges.length < 4 ∧ s.controller.joinAttempt < 4 ∧
      entry0.attempt < 4) ∧
    (s.trigger.inputs[7]? = some { level := false, count := 0, capture := none } ∧ 7 < s.config.channelCount ∧
      s.config.channelCount ≤ 8 ∧ s.composer.record[7]? = some { level := 0, duty := 0 }) ∧
    [s.readStatusData 0, s.readStatusData 1, s.readStatusData 16, s.readStatusData 17, s.readStatusData 24,
      s.readCueData 0, s.readCueData 64, s.readCueData 1, s.readCueData 65, s.readPeerData 0, s.readPeerData 1,
      s.readChannelData 63].map List.length = [17, 19, 19, 7, 7, 14, 23, 4, 8, 20, 2, 6] ∧
    s.readCueData 0 = [1, 7, 12, 0x52, 0x40, 96, 0xC0, 103, 0x00, 0xA3, 0xE8, 0, 0, 0] := by decide +kernel

/-- A node in RING with entries everywhere. -/
def busy : State :=
  { withSlots [.live live7, .tombstone { origin := 3, number := 12, revision := 5, step := 2990 }]
      (queueing [own 1] (node .ring)) with
    roster := [peer 1 1 0, peer 2 1 0, peer 7 62 0], publications := [entry0] }

/-- Every premise of the statements on what a step keeps holds of it together, and it takes a step. -/
theorem witness_kept :
    (busy.sizesFixed ∧ busy.ring.bounded ∧ busy.publicationsBounded ∧ busy.keysUnique ∧ busy.rosterOrdered ∧
      busy.controller.bounded ∧ busy.agesInWindow ∧ busy.asleepAtReset ∧ busy.configInRange ∧ busy.timeSound) ∧
      ∃ t, step busy = .next t := by
  refine ⟨?_, _, rfl⟩
  and_intros <;> decide +kernel

/-- An age of one short of 8 beacon intervals, and one at them between a boundary and its removal; and not after it. -/
theorem witness_ControllerBoundsAreKept :
    let s := fun (age : Nat) (mark : Bool) =>
      let up := due { Due.none with strayAges := mark } (node .ring)
      { up with controller := { up.controller with strayAges := [age, 0], grace := 16, listenCount := 255 } }
    (∀ x ∈ [s 63 false, s 64 true],
      x.asleepAtReset ∧ x.configInRange ∧ x.controller.bounded ∧ x.agesInWindow) ∧
      ¬ (s 64 false).agesInWindow ∧ ∃ t, step (s 63 false) = .next t :=
  ⟨by decide +kernel, by decide +kernel, _, rfl⟩

/-- So they do of a node in reset. -/
theorem witness_kept_in_reset :
    (State.reset.asleepAtReset ∧ State.reset.rosterOrdered ∧ State.reset.controller.bounded ∧
      State.reset.agesInWindow ∧
      State.reset.configInRange ∧ State.reset.timeSound ∧ State.reset.asleep) ∧
      ∃ t, step { State.reset with pending := [.resetRelease] } = .next t := by
  refine ⟨?_, _, rfl⟩
  and_intros <;> decide +kernel

end Sys2Proof.Tests
end

section
/-! PROOFS. The pass-start work on the LIVE entries (R23): the phase of an entry for a target step, what the work makes
of a slot in each phase, and the table that the start of a pass leaves. -/

namespace Sys2Proof.Machine

section EntryAtPass

variable {n : StepNo} {e : LiveEntry} {r : FadeOut}

/-! ### The phase for a target step (R23, step 1) -/

theorem LiveEntry.phaseAt_of_before_start (h : stepBefore n e.cue.start = true) : e.phaseAt n = .pending := by
  simp [LiveEntry.phaseAt, h]

theorem LiveEntry.phaseAt_of_not_released (hstart : stepBefore n e.cue.start = false) (hr : e.release = none) :
    e.phaseAt n = .active := by
  simp [LiveEntry.phaseAt, hstart, hr]

theorem LiveEntry.phaseAt_of_before_release (hstart : stepBefore n e.cue.start = false) (hr : e.release = some r)
    (h : stepAtOrAfter n r.step = false) : e.phaseAt n = .active := by
  simp [LiveEntry.phaseAt, hstart, hr, h]

theorem LiveEntry.phaseAt_of_from_release (hstart : stepBefore n e.cue.start = false) (hr : e.release = some r)
    (h : stepAtOrAfter n r.step = true) : e.phaseAt n = .fading := by
  simp [LiveEntry.phaseAt, hstart, hr, h]

/-- Only the start step keeps an entry PENDING: a release alone never does. -/
theorem LiveEntry.phaseAt_ne_pending (hstart : stepBefore n e.cue.start = false) : e.phaseAt n ≠ .pending := by
  cases hr : e.release with
  | none => simp [LiveEntry.phaseAt_of_not_released hstart hr]
  | some r =>
    cases h : stepAtOrAfter n r.step with
    | false => simp [LiveEntry.phaseAt_of_before_release hstart hr h]
    | true => simp [LiveEntry.phaseAt_of_from_release hstart hr h]

/-! ### The end of an entry (R23, steps 2 and 3) -/

theorem LiveEntry.endReached_eq_getD (e : LiveEntry) (n : StepNo) :
    e.endReached n = (e.cue.stop.map (stepAtOrAfter n)).getD false := by
  unfold LiveEntry.endReached
  cases e.cue.stop <;> rfl

theorem LiveEntry.fadeOver_of_released (hr : e.release = some r) :
    e.fadeOver n = stepAtOrAfter n (r.step + r.fade.setWidth 32) := by
  simp [LiveEntry.fadeOver, hr, FadeOut.over]

/-! ### The slot of an entry in each phase (R23) -/

theorem slotAtPass_of_pending (hp : e.phaseAt n = .pending) :
    slotAtPass n (.live e) = .live { e with phase := .pending } := by
  simp [slotAtPass, hp]

theorem slotAtPass_of_active (hp : e.phaseAt n = .active) (hend : e.endReached n = false) :
    slotAtPass n (.live e) = .live { e with phase := .active } := by
  simp [slotAtPass, hp, hend]

theorem slotAtPass_of_fading (hp : e.phaseAt n = .fading) (hend : e.endReached n = false)
    (hfade : e.fadeOver n = false) : slotAtPass n (.live e) = .live { e with phase := .fading } := by
  simp [slotAtPass, hp, hend, hfade]

theorem slotAtPass_of_fadeOver (hp : e.phaseAt n = .fading) (hfade : e.fadeOver n = true) :
    slotAtPass n (.live e) = e.entomb n := by
  simp [slotAtPass, hp, hfade]

/-- The end step ends an ACTIVE and a FADING entry alike, whatever its fade. -/
theorem slotAtPass_of_endReached (hp : e.phaseAt n ≠ .pending) (hend : e.endReached n = true) :
    slotAtPass n (.live e) = e.entomb n := by
  cases h : e.phaseAt n with
  | pending => exact absurd h hp
  | active => simp [slotAtPass, h, hend]
  | fading => simp [slotAtPass, h, hend]

end EntryAtPass

/-! ### The table after the start of a pass -/

theorem startPass_table (s : State) (n : StepNo) : (s.startPass n).table = s.table.map (slotAtPass n) := by
  unfold State.startPass
  dsimp only
  split <;> simp

/-- Settles O33, by the phase that R23 gives the entry for the target step. -/
theorem passStartBringsEntriesUp : Obligations.PassStartBringsEntriesUp := by
  intro n e
  dsimp only
  rw [← LiveEntry.endReached_eq_getD]
  refine ⟨fun hbefore => slotAtPass_of_pending (LiveEntry.phaseAt_of_before_start hbefore), fun hstart => ⟨?_, ?_⟩, ?_⟩
  · exact fun hend => slotAtPass_of_endReached (LiveEntry.phaseAt_ne_pending hstart) hend
  · refine fun hend => ⟨fun hr => ?unreleased, fun r hr => ⟨fun hbefore => ?unfaded, fun hfrom => ?released⟩⟩
    case unreleased => exact slotAtPass_of_active (LiveEntry.phaseAt_of_not_released hstart hr) hend
    case unfaded => exact slotAtPass_of_active (LiveEntry.phaseAt_of_before_release hstart hr hbefore) hend
    case released =>
      have hp : e.phaseAt n = .fading := LiveEntry.phaseAt_of_from_release hstart hr hfrom
      rw [← LiveEntry.fadeOver_of_released hr]
      exact ⟨slotAtPass_of_fadeOver hp, slotAtPass_of_fading hp hend⟩
  · intro s i hlive
    rw [startPass_table, List.getElem?_map, hlive, Option.map_some]

end Sys2Proof.Machine
end

section
/-! PROOFS. The output curve and the duty of an offset (R41): the value of each curve, its bound, and what a pass
composes for an offset it owns and for one it does not. -/

namespace Sys2Proof.Machine

/-! ### The two curves -/

@[simp] theorem OutputCurve.linear_duty (level : Nat) : OutputCurve.linear.duty level = level := rfl

@[simp] theorem OutputCurve.square_duty (level : Nat) : OutputCurve.square.duty level = level * level / 4095 := rfl

theorem OutputCurve.duty_zero (curve : OutputCurve) : curve.duty 0 = 0 := by
  cases curve with
  | linear => simp
  | square => simp

theorem OutputCurve.duty_full (curve : OutputCurve) : curve.duty 4095 = 4095 := by
  cases curve with
  | linear => simp
  | square => simp

/-- Neither curve raises a level of the scale, so duties stay on the scale too. -/
theorem OutputCurve.duty_le_level (curve : OutputCurve) {level : Nat} (h : level ≤ 4095) :
    curve.duty level ≤ level := by
  cases curve with
  | linear => exact le_refl level
  | square =>
    rw [OutputCurve.square_duty]
    exact Nat.div_le_of_le_mul (Nat.mul_le_mul_right level h)

/-- 63 × 63 is less than 4095, so the levels to 63 are rounded down to nothing. -/
theorem OutputCurve.square_duty_of_le_63 {level : Nat} (h : level ≤ 63) : OutputCurve.square.duty level = 0 := by
  have hsquare : level * level ≤ 63 * 63 := Nat.mul_le_mul h h
  rw [OutputCurve.square_duty]
  exact Nat.div_eq_of_lt (by omega)

/-! ### What a pass composes for an offset -/

section Offset

variable {p : Pass} {c : NodeConfig} {i : Nat}

theorem Pass.level_of_failsafe (h : p.failsafe = true) : p.level c i = c.failsafeLevel := by
  simp [Pass.level, h]

theorem Pass.composed_of_owned (h : i < c.channelCount) :
    p.composed c i = { level := p.level c i, duty := c.outputCurve.duty (p.level c i) } := by
  simp [Pass.composed, h]

theorem Pass.composed_of_not_owned (h : c.channelCount ≤ i) : p.composed c i = { level := 0, duty := 0 } := by
  simp [Pass.composed, Nat.not_lt.mpr h]

theorem Pass.composed_duty (h : i < c.channelCount) :
    (p.composed c i).duty = c.outputCurve.duty (p.composed c i).level := by
  rw [Pass.composed_of_owned h]

theorem Pass.composed_duty_of_failsafe (h : i < c.channelCount) (hf : p.failsafe = true) :
    (p.composed c i).duty = c.outputCurve.duty c.failsafeLevel := by
  rw [Pass.composed_of_owned h, Pass.level_of_failsafe hf]

end Offset

/-- Settles O36, from the values of the two curves and what a pass composes for an offset. -/
theorem outputCurves : Obligations.OutputCurves := by
  refine ⟨fun level => ⟨OutputCurve.linear_duty level, OutputCurve.square_duty level⟩, fun curve => ?scale,
    fun level _ hlow => OutputCurve.square_duty_of_le_63 hlow, OutputCurve.square_duty 64, fun p c i => ?offset⟩
  case scale => exact ⟨curve.duty_zero, curve.duty_full, fun level h => (curve.duty_le_level h).trans h⟩
  case offset =>
    refine ⟨Pass.composed_duty, Pass.composed_duty_of_failsafe, fun h => ?_⟩
    rw [Pass.composed_of_not_owned h]

end Sys2Proof.Machine
end

section
/-! PROOFS. The air time of a message (R52): the least number of ticks that covers the message's bytes, which
forwarding leaves as it is, since it writes only the transit field. -/

namespace Sys2Proof.Machine

/-- At 0.32 ticks a byte, the air time is the one whole number of ticks that covers the bytes with less than a tick to
spare (R52). -/
theorem airTime_eq_iff {n ticks : Nat} : airTime n = ticks ↔ 32 * n ≤ 100 * ticks ∧ 100 * ticks < 32 * n + 100 := by
  unfold airTime
  omega

/-- The 16 header bytes, the payload and the 2 CRC bytes (R52, R187). -/
theorem Message.length_eq (m : Message) : m.length = 16 + m.payload.length + 2 := by
  unfold Message.length
  omega

/-! ### The message as it leaves (R51, R133) -/

@[simp] theorem State.departing_payload (s : State) (w : Waiting) (partTick : Bool) :
    (s.departing w partTick).payload = w.message.payload := rfl

@[simp] theorem State.departing_length (s : State) (w : Waiting) (partTick : Bool) :
    (s.departing w partTick).length = w.message.length := by
  rw [Message.length_eq, Message.length_eq, State.departing_payload]

/-- Settles O19, from the bounds that determine the air time and the length of a message as it leaves. The obligation's
own name is taken by the model's `airTime`. -/
theorem airTimeOfMessage : Obligations.AirTime := by
  refine ⟨fun n => airTime_eq_iff.mp rfl, Message.length_eq, ?empty, ?largest, fun s w partTick => ⟨?length, ?time⟩⟩
  case empty => exact airTime_eq_iff.mpr ⟨by decide, by decide⟩
  case largest => exact airTime_eq_iff.mpr ⟨by decide, by decide⟩
  case length => exact s.departing_length w partTick
  case time => rw [State.departing_length]

end Sys2Proof.Machine
end

section
/-! PROOFS. What a step does, block by block: every step but a reset and a load is a run of moves, each of which replaces
one block, or keeps the books, under the guarantee that the block gives. -/

namespace Sys2Proof.Machine

/-! ### The moves -/

/-- The node states that the controller may enter by a move of its own: it stays, changes between states that send, or
leaves LISTEN for ADMIT with the timebase SET (R158, R159, R161, R164, R165). -/
def State.mayEnter (s : State) (n : NodeState) : Prop :=
  n = s.controller.state ∨ (s.controller.state.sendsOwn = true ∧ n.sendsOwn = true) ∨
    (s.controller.state = .listen ∧ s.time.isSet = true ∧ n = .admitting)

/-- A new time that keeps the phase below L, the trims within the bound, and RUNNING and SET where they stand
(R47, R55, R58, R59). -/
def State.mayMoveTo (s : State) (x : Timebase) : Prop :=
  (0 < s.config.stepLength → s.time.phase < s.config.stepLength → s.time.trimUsed ≤ s.config.trimBound →
      x.phase < s.config.stepLength ∧ x.trimUsed ≤ s.config.trimBound) ∧
    (s.time.running = true → x.running = true) ∧ (s.time.isSet = true → x.isSet = true)

/-- The link goes on: its mode, its repeating and its transmission stay, and what waits to be forwarded goes on waiting
(R118, R133, R136). -/
def RingPort.goesOnAs (r next : RingPort) : Prop :=
  next.mode = r.mode ∧ next.repeating = r.repeating ∧ next.transmitter = r.transmitter ∧ r.insertion <+: next.insertion

/-- A move: one block is replaced under its guarantee. The books are what no block's guarantee speaks of. -/
inductive Move : State → State → Prop
  | books (s : State) (l : Loader) (k : Counters) (r : Responder) (n f : Nat) :
      Move s { s with loader := l, counters := k, responder := r, now := n, freeCount := f }
  | ring (s : State) (r : RingPort) (hlink : s.ring.goesOnAs r) (h : s.ring.bounded → r.bounded) : Move s (s.withRing r)
  | table (s : State) (l : List Slot) (hlen : l.length = s.table.length)
      (hkeys : (s.table.filterMap Slot.key).Nodup → (l.filterMap Slot.key).Nodup) : Move s (s.withTable l)
  | composer (s : State) (c : Composer) (h : s.composer.record.length = 64 → c.record.length = 64) :
      Move s (s.withComposer c)
  | pulse (s : State) (p : PulseUnit)
      (h : s.pulse.active.length = 64 ∧ s.pulse.pending.length = 64 → p.active.length = 64 ∧ p.pending.length = 64) :
      Move s (s.withPulse p)
  | trigger (s : State) (u : TriggerUnit) (h : u.inputs.length = s.trigger.inputs.length) : Move s (s.withTrigger u)
  | origins (s : State) (l : List OriginSlot) (h : l.length = s.origins.length) : Move s (s.withOrigins l)
  | publications (s : State) (l : List Publication)
      (h : s.publicationsBounded → (s.withPublications l).publicationsBounded) : Move s (s.withPublications l)
  | roster (s : State) (l : List Peer) (h : s.rosterOrdered → (s.withRoster l).rosterOrdered) : Move s (s.withRoster l)
  | controller (s : State) (c : Controller) (hages : c.strayAges = s.controller.strayAges)
      (h : s.controller.bounded → c.bounded) (hstate : s.mayEnter c.state) : Move s (s.withController c)
  | time (s : State) (x : Timebase) (h : s.mayMoveTo x) : Move s (s.withTime x)
  | due (s : State) (d : Due) (h : d.strayAges = s.due.strayAges) : Move s (s.withDue d)
  | boundaryCounts (s : State) (h : s.due.strayAges = false) :
      Move s (s.withController s.controller.atBoundary).markDue
  | strayAges (s : State) : Move s s.takeStrayAges
  | strayEcho (s : State) : Move s s.strayEcho
  | restart (s : State) (h : s.controller.state.strips = true) : Move s s.doRestart

/-- A run of moves. -/
abbrev Moves : State → State → Prop := Relation.ReflTransGen Move

theorem Moves.refl {s : State} : Moves s s := Relation.ReflTransGen.refl

theorem Moves.of_eq {s t : State} (h : t = s) : Moves s t := h ▸ .refl

theorem Move.moves {s t : State} (h : Move s t) : Moves s t := .single h

/-- A property that every move keeps holds after a run of moves. -/
theorem Moves.keep {P : State → Prop} (hP : ∀ {s t : State}, Move s t → P s → P t) {s t : State} (h : Moves s t)
    (hs : P s) : P t := by
  induction h with
  | refl => exact hs
  | tail _ hmove ih => exact hP hmove ih

theorem Moves.foldl {α : Type} {f : State → α → State} (h : ∀ s a, Moves s (f s a)) :
    ∀ (l : List α) (s : State), Moves s (l.foldl f s)
  | [], _ => .refl
  | a :: l, s => (h s a).trans (Moves.foldl h l (f s a))

/-! ### Books -/

theorem count_moves (s : State) (k : Counter) : Moves s (s.count k) :=
  (Move.books s s.loader (s.counters.bump k) s.responder s.now s.freeCount).moves

theorem withResponder_moves (s : State) (r : Responder) : Moves s (s.withResponder r) :=
  (Move.books s s.loader s.counters r s.now s.freeCount).moves

theorem withCounters_moves (s : State) (k : Counters) : Moves s (s.withCounters k) :=
  (Move.books s s.loader k s.responder s.now s.freeCount).moves

theorem takeTarget_moves (s : State) : Moves s s.takeTarget.2 :=
  (Move.books s s.loader s.counters s.responder s.now (s.freeCount + 1)).moves

theorem noteOverflow_moves (s : State) : Moves s s.noteOverflow := withResponder_moves s _

/-! ### The ring port -/

theorem takeSequence_moves (s : State) : Moves s s.takeSequence.2 :=
  (Move.ring s { s.ring with nextSequence := s.ring.nextSequence + 1 } ⟨rfl, rfl, rfl, List.prefix_rfl⟩ id).moves

theorem enqueue_moves {s : State} (m : OwnMessage) (h : s.ring.sendQueue.length < 8) : Moves s (s.enqueue m) := by
  refine (Move.ring s _ (by exact ⟨rfl, rfl, rfl, List.prefix_rfl⟩) ?_).moves
  rintro ⟨hi, -, hr⟩
  exact ⟨hi, by simpa using h, hr⟩

theorem withReceive_moves {s : State} {o : Option (List Byte)} (h : (o.getD []).length ≤ 50) :
    Moves s (s.withRing { s.ring with receive := o }) := by
  refine (Move.ring s _ (by exact ⟨rfl, rfl, rfl, List.prefix_rfl⟩) ?_).moves
  rintro ⟨hi, hq, hrecent, hnodup, hguard, -⟩
  exact ⟨hi, hq, hrecent, hnodup, hguard, h⟩

theorem emptyReceive_moves (s : State) : Moves s s.emptyReceive := withReceive_moves (by simp)

theorem beginReception_moves (s : State) (bytes : List Byte) : Moves s (s.beginReception bytes) :=
  withReceive_moves (by simp)

theorem forward_moves (s : State) (m : Message) : Moves s (s.forward m) := by
  unfold State.forward
  split
  · rename_i hroom
    refine (Move.ring s _ (by exact ⟨rfl, rfl, rfl, List.prefix_append _ _⟩) ?_).moves
    rintro ⟨-, hr⟩
    exact ⟨by simpa using hroom, hr⟩
  · exact (count_moves s _).trans (noteOverflow_moves _)

/-- A sequence that joins recent sends stands there once, and 16 stay (R130). -/
theorem enterRecent_bounded {recent : List Byte} (h : recent.Nodup) (q : Byte) :
    (enterRecent recent q).length ≤ 16 ∧ (enterRecent recent q).Nodup := by
  unfold enterRecent
  refine ⟨by simp only [List.length_drop]; omega, (List.Nodup.sublist (List.drop_sublist _ _)) ?_⟩
  rw [List.nodup_append]
  refine ⟨h.filter _, List.nodup_singleton q, fun a ha b hb => ?_⟩
  rw [List.mem_singleton.mp hb]
  simpa using (List.mem_filter.mp ha).2

/-! ### The cue table -/

/-- A map of the slots that keeps each key or frees its slot keeps the keys unique (R4). -/
theorem keys_map_nodup {f : Slot → Slot} (hf : ∀ x, (f x).key = x.key ∨ (f x).key = none) {table : List Slot}
    (h : (table.filterMap Slot.key).Nodup) : ((table.map f).filterMap Slot.key).Nodup := by
  refine List.Nodup.sublist ?_ h
  clear h
  induction table with
  | nil => exact List.Sublist.refl _
  | cons x rest ih =>
    rw [List.map_cons, List.filterMap_cons, List.filterMap_cons]
    rcases hf x with hx | hx
    · rw [hx]
      cases x.key with
      | none => exact ih
      | some k => exact ih.cons_cons k
    · rw [hx]
      cases x.key with
      | none => exact ih
      | some k => exact ih.cons k

theorem mapTable_moves {s : State} {f : Slot → Slot} (hf : ∀ x, (f x).key = x.key ∨ (f x).key = none) :
    Moves s (s.withTable (s.table.map f)) :=
  (Move.table s _ (List.length_map _) (keys_map_nodup hf)).moves

@[simp] theorem LiveEntry.entomb_key (e : LiveEntry) (n : StepNo) :
    (e.entomb n).key = some (e.cue.origin, e.cue.number) := rfl

theorem clearSlot_key (o : NodeId) (clearStep now : StepNo) (atOnce : Bool) (x : Slot) :
    (clearSlot o clearStep now atOnce x).key = x.key := by
  unfold clearSlot
  repeat' split
  all_goals rfl

theorem dropSlot_key (o : NodeId) (now : StepNo) (x : Slot) : (dropSlot o now x).key = x.key := by
  unfold dropSlot
  repeat' split
  all_goals rfl

theorem slotAtPass_key (n : StepNo) (x : Slot) : (slotAtPass n x).key = x.key := by
  unfold slotAtPass
  repeat' split
  all_goals rfl

theorem restampTombstone_key (n : StepNo) (x : Slot) : (restampTombstone n x).key = x.key := by
  cases x <;> rfl

theorem freeOldTombstone_key (n : StepNo) (x : Slot) :
    (freeOldTombstone n x).key = x.key ∨ (freeOldTombstone n x).key = none := by
  unfold freeOldTombstone
  repeat' split
  all_goals simp [Slot.key]

/-- A slot holds a key exactly when the key is its own (R4). -/
theorem Slot.holds_iff (o : NodeId) (n : Byte) (x : Slot) : x.holds o n = true ↔ x.key = some (o, n) := by
  cases x <;> simp [Slot.holds, Slot.key]

/-- The slot that is found for a key holds it (R4). -/
theorem findKey_some {table : List Slot} {o : NodeId} {n : Byte} {i : Nat} (h : findKey table o n = some i) :
    ∃ x, table[i]? = some x ∧ x.key = some (o, n) := by
  obtain ⟨hi, hx, -⟩ := List.findIdx?_eq_some_iff_getElem.mp h
  exact ⟨table[i], List.getElem?_eq_getElem hi, (Slot.holds_iff o n _).mp hx⟩

/-- A key that is not found is held by no slot (R4). -/
theorem findKey_none {table : List Slot} {o : NodeId} {n : Byte} :
    findKey table o n = none ↔ ∀ x ∈ table, x.key ≠ some (o, n) := by
  rw [findKey, List.findIdx?_eq_none_iff]
  refine forall₂_congr fun x _ => ?_
  rw [ne_eq, ← Slot.holds_iff, Bool.not_eq_true]

/-- The keys stay unique when a slot takes the key that it has. -/
theorem keys_set_held {table : List Slot} {i : Nat} {x y : Slot} (hi : table[i]? = some y) (hx : x.key = y.key)
    (h : (table.filterMap Slot.key).Nodup) : ((table.set i x).filterMap Slot.key).Nodup := by
  have hsame : (table.set i x).map Slot.key = table.map Slot.key := by
    obtain ⟨hlt, rfl⟩ := List.getElem?_eq_some_iff.mp hi
    rw [List.map_set, hx, ← List.getElem_map Slot.key (h := by simpa using hlt), List.set_getElem_self]
  have hkeys : ∀ l : List Slot, l.filterMap Slot.key = (l.map Slot.key).filterMap id := fun l => by
    rw [List.filterMap_map]
    rfl
  rwa [hkeys, hsame, ← hkeys]

/-- The keys stay unique when a slot takes a key that no slot has. -/
theorem keys_set_new {table : List Slot} {i : Nat} {x : Slot} {o : NodeId} {n : Byte} (hx : x.key = some (o, n))
    (hnew : findKey table o n = none) (h : (table.filterMap Slot.key).Nodup) :
    ((table.set i x).filterMap Slot.key).Nodup := by
  have habsent := findKey_none.mp hnew
  rw [List.Nodup, List.pairwise_filterMap, List.pairwise_iff_getElem] at h ⊢
  intro a b ha hb hab
  rw [List.length_set] at ha hb
  simp only [List.getElem_set]
  split
  · rw [if_neg (by omega), hx]
    rintro k hk k' hk' rfl
    exact habsent _ (List.getElem_mem hb) (hk' ▸ hk.symm ▸ rfl)
  · split
    · rw [hx]
      rintro k hk k' hk' rfl
      exact habsent _ (List.getElem_mem ha) (hk ▸ hk'.symm ▸ rfl)
    · exact h a b ha hb hab

/-! ### What the cue table takes -/

theorem setSlot_moves {s : State} {i : Nat} {x : Slot}
    (h : (s.table.filterMap Slot.key).Nodup → ((s.table.set i x).filterMap Slot.key).Nodup) :
    Moves s (s.withTable (s.table.set i x)) :=
  (Move.table s _ List.length_set h).moves

/-- A slot that is held is put under its own key, and counted. -/
theorem putHeld_moves {s : State} {i : Nat} {x y : Slot} {k : Counter} (hi : s.table[i]? = some y)
    (hx : x.key = y.key) : Moves s ((s.withTable (s.table.set i x)).count k) :=
  (setSlot_moves (keys_set_held hi hx)).trans (count_moves _ k)

/-- A slot is put under a key that is not held, and counted. -/
theorem putNew_moves {s : State} {i : Nat} {x : Slot} {k : Counter} {o : NodeId} {n : Byte}
    (hx : x.key = some (o, n)) (hnew : findKey s.table o n = none) :
    Moves s ((s.withTable (s.table.set i x)).count k) :=
  (setSlot_moves (keys_set_new hx hnew)).trans (count_moves _ k)

theorem refuseContent_moves (s : State) : Moves s s.refuseContent :=
  (count_moves s .refused).trans (withResponder_moves _ _)

theorem storeCueAt_moves {s : State} {i : Nat} {c : Cue} (k : Counter)
    (h : (s.table.filterMap Slot.key).Nodup →
      ((s.table.set i (.live (s.newEntry c))).filterMap Slot.key).Nodup) : Moves s (s.storeCueAt i c k) := by
  have hstored : Moves s ((s.withTable (s.table.set i (.live (s.newEntry c)))).count k) :=
    (setSlot_moves h).trans (count_moves _ k)
  unfold State.storeCueAt
  dsimp only
  split
  · exact (hstored.trans (count_moves _ .late)).trans (withResponder_moves _ _)
  · exact hstored

theorem takeCue_moves (s : State) (c : Cue) (b : Bool) : Moves s (s.takeCue c b).2 := by
  unfold State.takeCue
  split
  · exact count_moves s _
  · split
    case h_1 hnew =>
      repeat' split
      case h_2 => exact storeCueAt_moves _ (keys_set_new rfl hnew)
      case h_1 => exact refuseContent_moves s
      all_goals exact count_moves s _
    case h_2 i hheld =>
      obtain ⟨x, hx, hkey⟩ := findKey_some hheld
      repeat' split
      case isTrue => exact count_moves s _
      case isTrue => exact storeCueAt_moves _ (keys_set_held hx (by exact hkey.symm))
      case isFalse => exact putHeld_moves hx (by exact hkey.symm)
      all_goals exact count_moves s _

theorem takeRelease_moves (s : State) (o : NodeId) (n : Byte) (r : Revision) (f : FadeOut) (b : Bool) :
    Moves s (s.takeRelease o n r f b).2 := by
  unfold State.takeRelease
  dsimp only
  split
  · exact count_moves s _
  · split
    case h_1 hnew =>
      split
      · exact refuseContent_moves s
      · exact putNew_moves (by rfl) hnew
    case h_2 i hheld =>
      obtain ⟨x, hx, hkey⟩ := findKey_some hheld
      rw [List.getD_eq_getElem?_getD, hx, Option.getD_some]
      cases x with
      | free => exact count_moves s _
      | live e =>
        dsimp only
        repeat' split
        case h_2.isFalse => exact putHeld_moves hx (by rfl)
        case h_3 => exact putHeld_moves hx (by rfl)
        all_goals exact count_moves s _
      | tombstone t =>
        dsimp only
        repeat' split
        case h_3 => exact putHeld_moves hx (by exact hkey.symm)
        all_goals exact count_moves s _

theorem takeClear_moves (s : State) (o : NodeId) (n : StepNo) (b : Bool) : Moves s (s.takeClear o n b) := by
  unfold State.takeClear
  split
  · exact count_moves s _
  · exact mapTable_moves fun x => .inl (clearSlot_key ..)

theorem purgeOrigin_moves (s : State) (o : NodeId) : Moves s (s.purgeOrigin o) := by
  refine mapTable_moves fun x => ?_
  by_cases h : x.origin? = some o
  · exact .inr (by rw [if_pos h]; rfl)
  · exact .inl (by rw [if_neg h])

theorem dropOrphans_moves (s : State) (o : NodeId) : Moves s (s.dropOrphans o) :=
  mapTable_moves fun x => .inl (dropSlot_key o _ x)

end Sys2Proof.Machine
end

section
/-! PROOFS. The moves of the publication unit, the composer and the pulse unit, and of the node controller. -/

namespace Sys2Proof.Machine

/-! ### The publication list (R100, R101, R102, R104) -/

/-- Placing changes nothing of an entry that its place on the ring and its sent step do not show. -/
theorem placeInOrder_map {β : Type} {f : Publication → β} (hf : ∀ e, f { e with onRing := true, sent := none } = f e) :
    ∀ (room : Nat) (l : List Publication), (placeInOrder room l).1.map f = l.map f
  | _, [] => by simp [placeInOrder]
  | room, e :: rest => by
    unfold placeInOrder
    split
    · rw [List.map_cons, List.map_cons, placeInOrder_map hf]
    · cases room with
      | zero => rfl
      | succ room => rw [List.map_cons, List.map_cons, placeInOrder_map hf, hf]

/-- The entries placed are the first that wait, one per free place (R101). -/
theorem placeInOrder_placed :
    ∀ (room : Nat) (l : List Publication), (placeInOrder room l).2 = (l.filter fun e => !e.onRing).take room
  | _, [] => by simp [placeInOrder]
  | room, e :: rest => by
    unfold placeInOrder
    cases he : e.onRing with
    | true => simp [he, placeInOrder_placed]
    | false =>
      cases room with
      | zero => simp
      | succ room => simp [he, placeInOrder_placed]

/-- The bounds of the list depend on its slots and attempts alone. -/
theorem publicationsBounded_of_map {s : State} {l : List Publication}
    (hslot : l.map Publication.slot = s.publications.map Publication.slot)
    (hattempt : l.map Publication.attempt = s.publications.map Publication.attempt) (h : s.publicationsBounded) :
    (s.withPublications l).publicationsBounded := by
  obtain ⟨hlen, hnodup, hatt⟩ := h
  refine ⟨?_, by simpa [hslot] using hnodup, fun e he => ?_⟩
  · have := congrArg List.length hslot
    simp only [List.length_map] at this
    simpa [this] using hlen
  · have hmem : e.attempt ∈ s.publications.map Publication.attempt :=
      hattempt ▸ List.mem_map_of_mem (f := Publication.attempt) he
    obtain ⟨e', he', heq⟩ := List.mem_map.mp hmem
    exact heq ▸ hatt e' he'

/-- A part of the list keeps its bounds. -/
theorem publicationsBounded_of_sublist {s : State} {l : List Publication} (hl : l.Sublist s.publications)
    (h : s.publicationsBounded) : (s.withPublications l).publicationsBounded := by
  obtain ⟨hlen, hnodup, hatt⟩ := h
  exact ⟨hl.length_le.trans hlen, hnodup.sublist (hl.map _), fun e he => hatt e (hl.subset he)⟩

theorem countPlaced_moves (s : State) (e : Publication) : Moves s (s.countPlaced e) := by
  unfold State.countPlaced
  split
  · exact count_moves s _
  · exact .refl

theorem placePublications_moves (s : State) : Moves s s.placePublications := by
  unfold State.placePublications
  split
  · dsimp only
    have hlist : Moves s (s.withPublications (placeInOrder (8 - s.ring.sendQueue.length) s.publications).1) :=
      (Move.publications s _ (publicationsBounded_of_map (placeInOrder_map (fun _ => rfl) _ _)
        (placeInOrder_map (fun _ => rfl) _ _))).moves
    refine .trans (hlist.trans ?queue) (Moves.foldl countPlaced_moves _ _)
    case queue =>
      refine (Move.ring _ _ (by exact ⟨rfl, rfl, rfl, List.prefix_rfl⟩) ?_).moves
      rintro ⟨hi, hq, hr⟩
      refine ⟨hi, ?_, hr⟩
      have hq' : s.ring.sendQueue.length ≤ 8 := hq
      simp only [List.length_append, List.length_map, placeInOrder_placed, List.length_take]
      omega
  · exact .refl

theorem recordSent_moves (s : State) (k : OwnKind) (q : Byte) : Moves s (s.recordSent k q) := by
  refine (Move.publications s _ (publicationsBounded_of_map ?_ ?_)).moves <;>
  · rw [List.map_map]
    refine List.map_congr_left fun e _ => ?_
    dsimp only [Function.comp]
    split <;> rfl

/-- With room, a new entry of a slot takes the place of any other of it (R100, R102). -/
theorem createPublication_moves {s : State} {t : Nat} (k : PubKind) (r l : Bool) (p : List Byte)
    (h : s.publicationRoom t = true) : Moves s (s.createPublication t k r l p) := by
  refine ((takeSequence_moves s).trans (takeTarget_moves _)).trans (Move.publications _ _ ?_).moves
  rintro ⟨hlen, hnodup, hatt⟩
  have hlen : s.publications.length ≤ 8 := hlen
  have hkept : (s.publications.filter fun e => e.slot != t).length < 8 := by
    rcases Bool.or_eq_true_iff.mp h with hheld | hroom
    · obtain ⟨e, he, hslot⟩ := List.any_eq_true.mp hheld
      refine lt_of_lt_of_le (List.length_filter_lt_length_iff_exists.mpr ⟨e, he, ?_⟩) hlen
      simpa using hslot
    · exact lt_of_le_of_lt (List.length_filter_le _ _) (of_decide_eq_true hroom)
  refine ⟨by simpa using hkept, ?_, fun e he => ?_⟩
  · simp only [State.withPublications_publications, List.map_append, List.map_cons, List.map_nil]
    rw [List.nodup_append]
    refine ⟨hnodup.sublist (List.filter_sublist.map _), List.nodup_singleton t, fun a ha b hb => ?_⟩
    obtain ⟨e, he, rfl⟩ := List.mem_map.mp ha
    rw [List.mem_singleton.mp hb]
    simpa using (List.mem_filter.mp he).2
  · rcases List.mem_append.mp he with he | he
    · exact hatt e (List.mem_filter.mp he).1
    · rw [List.mem_singleton.mp he]
      exact ⟨le_refl 1, Nat.le_add_left 1 2⟩

theorem setOriginSlot_moves (s : State) (t : Nat) (o : OriginSlot) : Moves s (s.setOriginSlot t o) :=
  (Move.origins s _ List.length_set).moves

theorem feedSlot_moves (s : State) (t : Nat) : Moves s (s.feedSlot t) := by
  unfold State.feedSlot
  dsimp only
  repeat' split
  case h_1 => exact setOriginSlot_moves s _ _
  case h_3.isTrue h => exact (setOriginSlot_moves s _ _).trans (createPublication_moves _ _ _ _ (by exact h))
  case h_4.isTrue h => exact (setOriginSlot_moves s _ _).trans (createPublication_moves _ _ _ _ (by exact h))
  all_goals exact .refl

theorem feedReplays_moves (s : State) : Moves s s.feedReplays :=
  (Moves.foldl feedSlot_moves _ _).trans (placePublications_moves _)

theorem publishAction_moves {s : State} {t : Nat} (k : PubKind) (a : Admission) (p : List Byte)
    (h : s.publicationRoom t = true) : Moves s (s.publishAction t k a p) := by
  have hcreated := (createPublication_moves k false (a == .refused) p h).trans (placePublications_moves _)
  unfold State.publishAction
  dsimp only
  split
  · exact hcreated.trans (feedReplays_moves _)
  · exact hcreated

theorem startTemplate_moves {s : State} {t : Nat} (tpl : Template) (n : StepNo) (h : s.publicationRoom t = true) :
    Moves s (s.startTemplate t tpl n) := by
  refine ((takeCue_moves s _ true).trans (setOriginSlot_moves _ t _)).trans (publishAction_moves _ _ _ ?_)
  simpa [State.publicationRoom, State.hasPublication] using h

theorem releaseTemplate_moves {s : State} {t : Nat} (tpl : Template) (n : StepNo) (h : s.publicationRoom t = true) :
    Moves s (s.releaseTemplate t tpl n) := by
  refine ((takeRelease_moves s _ _ _ _ true).trans (setOriginSlot_moves _ t _)).trans (publishAction_moves _ _ _ ?_)
  simpa [State.publicationRoom, State.hasPublication] using h

theorem takeAction_moves (s : State) (action : TriggerAction) (t : Nat) (capture : Capture) :
    Moves s (s.takeAction action t capture) := by
  unfold State.takeAction
  repeat' split
  case h_3.isTrue h => exact startTemplate_moves _ _ h
  case h_4.isTrue h => exact releaseTemplate_moves _ _ h
  case h_2 => exact .refl
  all_goals exact count_moves s _

theorem takeActions_moves (s : State) (actions : List (Binding × Capture)) : Moves s (s.takeActions actions) :=
  Moves.foldl (fun s _ => takeAction_moves s _ _ _) _ _

theorem publicationReturn_moves (s : State) (m : Message) : Moves s (s.publicationReturn m) := by
  unfold State.publicationReturn
  dsimp only
  split
  · exact .refl
  · refine .trans (.trans (.trans ?_ (setOriginSlot_moves _ _ _)) (count_moves _ _)) (feedReplays_moves _)
    exact (Move.publications s _ (publicationsBounded_of_sublist List.eraseP_sublist)).moves

theorem recordFailed_moves (s : State) (e : Publication) : Moves s (s.recordFailed e) :=
  (setOriginSlot_moves s _ _).trans (count_moves _ _)

/-- An entry that stays has not had its third attempt, or is not late: its attempt stays within 3 (R104). -/
theorem timeOutPublications_moves (s : State) : Moves s s.timeOutPublications := by
  refine .trans (.trans (Move.publications s _ ?_).moves (Moves.foldl recordFailed_moves _ _))
    (placePublications_moves _)
  rintro ⟨hlen, hnodup, hatt⟩
  refine ⟨?_, ?_, ?_⟩
  · simp only [State.withPublications_publications, List.length_map]
    exact (List.length_filter_le _ _).trans hlen
  · simp only [State.withPublications_publications, List.map_map]
    refine List.Nodup.sublist ?_ hnodup
    rw [List.map_congr_left (g := Publication.slot) fun e _ => by dsimp only [Function.comp]; split <;> rfl]
    exact List.filter_sublist.map Publication.slot
  · intro x hx
    obtain ⟨e, he, rfl⟩ := List.mem_map.mp hx
    obtain ⟨he, hstays⟩ := List.mem_filter.mp he
    have hbound := hatt e he
    split
    · rename_i hlate
      have hfew : e.attempt < 3 := by simpa [hlate] using hstays
      exact ⟨Nat.le_add_left 1 _, hfew⟩
    · exact hbound

end Sys2Proof.Machine
end

section
/-! PROOFS. The moves of the composer, the pulse unit, the node controller and the roster, of a boundary and of the
timebase. -/

namespace Sys2Proof.Machine

/-! ### Composer and pulse unit (R30, R42, R65) -/

theorem withDue_moves {s : State} {d : Due} (h : d.strayAges = s.due.strayAges) :
    Moves s (s.withDue d) :=
  (Move.due s d h).moves

theorem abortPass_moves (s : State) : Moves s s.abortPass := by
  unfold State.abortPass
  split
  · exact (Move.composer s { s.composer with pass := none } id).moves.trans (count_moves _ _)
  · exact .refl

theorem startPass_moves (s : State) (n : StepNo) : Moves s (s.startPass n) := by
  have htable : Moves s (s.abortPass.withTable (s.abortPass.table.map (slotAtPass n))) :=
    (abortPass_moves s).trans (mapTable_moves fun x => .inl (slotAtPass_key n x))
  unfold State.startPass
  dsimp only
  split
  · exact .trans (.trans (.trans htable (Move.composer _ _ (by exact id)).moves) (withDue_moves (by rfl)))
      (count_moves _ _)
  · exact .trans (.trans htable (Move.composer _ _ (by exact id)).moves) (withDue_moves (by rfl))

theorem withPulse_moves_of_same {s : State} {p : PulseUnit} (hactive : p.active = s.pulse.active)
    (hpending : p.pending = s.pulse.pending) : Moves s (s.withPulse p) :=
  (Move.pulse s p (by rw [hactive, hpending]; exact id)).moves

theorem completePass_moves (s : State) : Moves s s.completePass := by
  unfold State.completePass
  split
  · exact .refl
  · rename_i p _
    have hlen : (p.results s.config).length = 64 := by simp [Pass.results]
    have hcount : Moves s (if s.pulse.fresh then s.count .setSuperseded else s) := by
      split
      · exact count_moves s _
      · exact .refl
    refine hcount.trans (.trans (Move.pulse _ _ fun h => ?_).moves (Move.composer _ _ fun _ => hlen).moves)
    refine ⟨?_, by rw [List.length_map, hlen]⟩
    exact h.1

theorem PulseUnit.advance_sets (p : PulseUnit) (mode : PwmMode) (k : Nat) :
    (p.advance mode k).active = p.active ∧ (p.advance mode k).pending = p.pending := by
  cases mode <;> exact ⟨rfl, rfl⟩

theorem tickPulse_moves (s : State) : Moves s s.tickPulse := by
  unfold State.tickPulse
  split
  · exact withPulse_moves_of_same (PulseUnit.advance_sets ..).1 (PulseUnit.advance_sets ..).2
  · exact .refl

theorem takeCycleStart_moves (s : State) : Moves s s.takeCycleStart := by
  unfold State.takeCycleStart
  split
  · refine (Move.pulse s _ fun h => ?_).moves
    unfold PulseUnit.takeCycleStart
    repeat' split
    · exact ⟨h.2, h.2⟩
    · exact h
    · exact ⟨List.length_replicate, h.2⟩
  · exact .refl

theorem releaseOutputs_moves (s : State) : Moves s s.releaseOutputs := withPulse_moves_of_same rfl rfl

/-! ### The node controller (R159 to R168) -/

theorem withController_moves {s : State} {c : Controller} (hstate : c.state = s.controller.state)
    (hages : c.strayAges = s.controller.strayAges) (h : s.controller.bounded → c.bounded) :
    Moves s (s.withController c) :=
  (Move.controller s c hages h (.inl hstate)).moves

theorem NodeState.not_clash_of_sendsOwn {n : NodeState} (h : n.sendsOwn = true) : n ≠ .clash := by
  rintro rfl
  exact absurd h (by decide)

/-- A JOIN is placed, or waits, in a stay whose attempt allows one more (R159). -/
theorem placeJoin_moves {s : State} {c : Controller} (hages : c.strayAges = s.controller.strayAges)
    (hstate : s.mayEnter c.state)
    (h : s.controller.bounded → c.bounded ∧ c.joinSequences.length < c.joinAttempt) :
    Moves s (s.withController c).placeJoin := by
  have hjoins : ∀ (q : List Byte) (w : Bool), q.length + (if w then 1 else 0) ≤ c.joinSequences.length + 1 →
      s.controller.bounded → { c with joinSequences := q, joinWaiting := w }.bounded := by
    intro q w hq hs
    obtain ⟨⟨hlisten, hgrace, hmiss, hages, hclash, hage, hattempt, -⟩, hroom⟩ := h hs
    exact ⟨hlisten, hgrace, hmiss, hages, hclash, hage, hattempt, by dsimp only; omega⟩
  unfold State.placeJoin
  split
  case isTrue hq =>
    have hroom : s.ring.sendQueue.length < 8 := of_decide_eq_true hq
    have hqueued : ∀ m, Moves s (s.takeSequence.2.takeTarget.2.enqueue m) := fun m =>
      ((takeSequence_moves s).trans (takeTarget_moves _)).trans (enqueue_moves m hroom)
    have hjoined := fun m => Move.controller (s.takeSequence.2.takeTarget.2.enqueue m)
      { c with joinSequences := c.joinSequences ++ [s.ring.nextSequence], joinWaiting := false } hages
      (hjoins _ false (by simp)) hstate
    exact ((hqueued _).trans (hjoined _).moves).trans (count_moves _ .joinAttempts)
  case isFalse =>
    exact (Move.controller s { c with joinWaiting := true } hages (hjoins _ _ (by simp)) hstate).moves

/-- The stay that ADMIT begins: a first attempt, and no JOIN placed yet (R159). -/
theorem enterAdmission_moves {s : State}
    (h : s.controller.state.sendsOwn = true ∨ s.controller.state = .listen ∧ s.time.isSet = true) :
    Moves s s.enterAdmission := by
  have hne : s.controller.state ≠ .clash := by
    rcases h with h | ⟨h, -⟩
    · exact NodeState.not_clash_of_sendsOwn h
    · rw [h]; decide
  refine placeJoin_moves rfl ?_ ?_
  · rcases h with h | ⟨h, hset⟩
    · exact .inr (.inl ⟨h, rfl⟩)
    · exact .inr (.inr ⟨h, hset, rfl⟩)
  · rintro ⟨hlisten, hgrace, hmiss, hages, hclash, hage, -, -⟩
    exact ⟨⟨hlisten, hgrace, hmiss, hages, fun _ => hclash hne, hage, Nat.le_add_left 1 2, Nat.zero_le 1⟩, Nat.one_pos⟩

theorem reportEntries_moves (s : State) : Moves s s.reportEntries := withDue_moves (by rfl)

theorem markAll_moves (s : State) : Moves s s.markAll := (Move.origins s _ (List.length_map _)).moves

/-- A change of state among those that send clears the JOIN fields (R161, R164). -/
theorem clearJoin_moves {s : State} {n : NodeState} {w : Bool} (h : s.controller.state.sendsOwn = true)
    (hn : n.sendsOwn = true) :
    Moves s (s.withController { s.controller.clearJoin with state := n, wasIsolated := w }) := by
  refine (Move.controller s _ (by rfl) ?_ (.inr (.inl ⟨h, hn⟩))).moves
  rintro ⟨hlisten, hgrace, hmiss, hages, hclash, hage, -, -⟩
  exact ⟨hlisten, hgrace, hmiss, hages, fun _ => hclash (NodeState.not_clash_of_sendsOwn h), hage, Nat.zero_le 3,
    le_refl 0⟩

theorem enterRing_moves {s : State} (h : s.controller.state.sendsOwn = true) : Moves s s.enterRing := by
  have hentered : Moves s (s.withController { s.controller.clearJoin with state := .ring }).releaseOutputs :=
    (clearJoin_moves (n := .ring) (w := s.controller.wasIsolated) h rfl).trans (releaseOutputs_moves _)
  refine .trans ?_ (reportEntries_moves _)
  dsimp only
  split
  · exact hentered.trans (markAll_moves _)
  · exact hentered

theorem recordIsolation_moves (s : State) : Moves s s.recordIsolation :=
  (Move.composer s { s.composer with isolationEntry := some s.time.step } id).moves

theorem endIsolation_moves (s : State) : Moves s s.endIsolation :=
  (Move.composer s { s.composer with isolationEntry := none } id).moves

theorem enterIsolated_moves {s : State} (h : s.controller.state.sendsOwn = true) : Moves s s.enterIsolated :=
  .trans (.trans (.trans (.trans (clearJoin_moves (n := .isolated) (w := true) h rfl) (count_moves _ .isolations))
    (recordIsolation_moves _)) (releaseOutputs_moves _)) (reportEntries_moves _)

theorem readmit_moves {s : State} (h : s.controller.state = .isolated) : Moves s s.readmit := by
  refine (endIsolation_moves s).trans (enterAdmission_moves (.inl ?_))
  simp [h, NodeState.sendsOwn]

theorem startWatch_moves (s : State) : Moves s s.startWatch := by
  unfold State.startWatch
  split
  · exact withController_moves rfl rfl id
  · exact .refl

theorem recordJoinSent_moves (s : State) (k : OwnKind) (q : Byte) : Moves s (s.recordJoinSent k q) := by
  unfold State.recordJoinSent
  split
  · exact withController_moves rfl rfl id
  · exact .refl

theorem requestRestart_moves (s : State) (q : Byte) : Moves s (s.requestRestart q) := by
  unfold State.requestRestart
  split
  · exact .refl
  · exact withController_moves rfl rfl id

/-- The miss count and the watch change as the monitor counts or a return comes (R163). -/
theorem missCount_moves {s : State} {n : Nat} {w : Option StepNo} (hn : n ≤ 2) :
    Moves s (s.withController { s.controller with missCount := n, watch := w }) := by
  refine withController_moves (by rfl) (by rfl) ?_
  rintro ⟨hlisten, hgrace, -, hrest⟩
  exact ⟨hlisten, hgrace, hn, hrest⟩

theorem monitorReturn_moves (s : State) : Moves s s.monitorReturn := by
  unfold State.monitorReturn
  split
  · exact missCount_moves (Nat.zero_le 2)
  · exact .refl

theorem expireWatch_moves (s : State) : Moves s s.expireWatch := by
  unfold State.expireWatch
  split
  · dsimp only
    split
    · rename_i hring
      refine (missCount_moves (Nat.min_le_left 2 _)).trans (enterIsolated_moves ?_)
      rw [State.withController_controller, hring.1]
      rfl
    · exact missCount_moves (Nat.min_le_left 2 _)
  · exact .refl

theorem judgeJoin_moves (s : State) : Moves s s.judgeJoin := by
  unfold State.judgeJoin
  split
  case isTrue h =>
    split
    case isTrue hattempt =>
      refine placeJoin_moves (by rfl) (.inl (by rfl)) ?_
      rintro ⟨hlisten, hgrace, hmiss, hages, hclash, hage, hmax, hjoins⟩
      exact ⟨⟨hlisten, hgrace, hmiss, hages, hclash, hage, hattempt, by dsimp only; omega⟩, by dsimp only; omega⟩
    case isFalse => exact enterIsolated_moves (by rw [h.1]; rfl)
  case isFalse => exact .refl

theorem placeWaitingJoin_moves (s : State) : Moves s s.placeWaitingJoin := by
  unfold State.placeWaitingJoin
  split
  case isTrue h =>
    refine placeJoin_moves (s := s) (c := s.controller) rfl (.inl rfl) fun hs => ⟨hs, ?_⟩
    obtain ⟨-, -, -, -, -, -, -, hjoins⟩ := hs
    rw [if_pos h.2.1] at hjoins
    omega
  case isFalse => exact .refl

theorem controllerReturn_moves (s : State) (q : Byte) : Moves s (s.controllerReturn q) := by
  unfold State.controllerReturn
  split
  case h_1 h =>
    split
    · exact enterRing_moves (by rw [h]; rfl)
    · exact .refl
  case h_2 h => exact readmit_moves h
  all_goals exact .refl

theorem performRestart_moves (s : State) : Moves s s.performRestart := by
  cases h : s.controller.state.strips with
  | true => exact .trans (Move.restart s h).moves (Moves.of_eq (performRestart_of_strips s h))
  | false => exact Moves.of_eq (performRestart_of_not_strips s h)

theorem answerEnded_moves (s : State) (q : Byte) : Moves s (s.answerEnded q) := by
  unfold State.answerEnded
  split
  · exact performRestart_moves s
  · exact .refl

end Sys2Proof.Machine
end

section
/-! PROOFS. The roster's order (R145), and the moves of the roster, of a boundary and of the work that it leaves due. -/

namespace Sys2Proof.Machine

/-! ### The order of the roster (R145) -/

theorem Peer.before_iff (a b : Peer) :
    a.before b = true ↔ a.hop.toNat < b.hop.toNat ∨ a.hop = b.hop ∧ a.id.toNat < b.id.toNat := by
  unfold Peer.before
  by_cases hhop : a.hop = b.hop
  · simp [hhop]
  · simp [hhop]

/-- Of two entries of different ids one stands before the other. -/
theorem Peer.before_of_not_before {a b : Peer} (hid : a.id ≠ b.id) (h : a.before b ≠ true) : b.before a = true := by
  rw [ne_eq, Peer.before_iff] at h
  rw [Peer.before_iff]
  rw [ne_eq, ← BitVec.toNat_inj] at hid
  rw [← BitVec.toNat_inj] at h ⊢
  omega

theorem Peer.before_trans {a b c : Peer} (hab : a.before b = true) (hbc : b.before c = true) : a.before c = true := by
  rw [Peer.before_iff] at *
  rw [← BitVec.toNat_inj] at *
  omega

theorem insertPeer_perm (p : Peer) : ∀ l : List Peer, (insertPeer p l).Perm (p :: l)
  | [] => .refl _
  | x :: rest => by
    unfold insertPeer
    split
    · exact .refl _
    · exact ((insertPeer_perm p rest).cons x).trans (.swap p x rest)

theorem mem_insertPeer {p x : Peer} {l : List Peer} : x ∈ insertPeer p l ↔ x = p ∨ x ∈ l := by
  rw [(insertPeer_perm p l).mem_iff, List.mem_cons]

/-- An entry of a new id that takes its place keeps the order. -/
theorem insertPeer_ordered {p : Peer} :
    ∀ {l : List Peer}, l.Pairwise (fun a b => a.before b = true) → (∀ x ∈ l, x.id ≠ p.id) →
      (insertPeer p l).Pairwise (fun a b => a.before b = true)
  | [], _, _ => List.pairwise_singleton _ p
  | x :: rest, h, hnew => by
    obtain ⟨hx, hrest⟩ := List.pairwise_cons.mp h
    unfold insertPeer
    split
    case isTrue hbefore =>
      refine List.pairwise_cons.mpr ⟨fun y hy => ?_, h⟩
      rcases List.mem_cons.mp hy with rfl | hy
      · exact hbefore
      · exact Peer.before_trans hbefore (hx y hy)
    case isFalse hbefore =>
      refine List.pairwise_cons.mpr ⟨fun y hy => ?_, insertPeer_ordered hrest fun y hy => hnew y (.tail _ hy)⟩
      rcases mem_insertPeer.mp hy with rfl | hy
      · exact Peer.before_of_not_before (hnew x (.head _)).symm hbefore
      · exact hx y hy

theorem removePeer_id_ne {o : NodeId} {l : List Peer} {p : Peer} (h : p ∈ removePeer o l) : p.id ≠ o := by
  simpa using (List.mem_filter.mp h).2

/-- The entry that a message makes or refreshes has the message's origin and distance (R140, R141, R144). -/
theorem peerAfter_place (s : State) (m : Message) : (s.peerAfter m).id = m.origin ∧ (s.peerAfter m).hop = m.hop := by
  have hannounced : ∀ e : Peer, e.id = m.origin ∧ e.hop = m.hop →
      (if m.announces then e.takeAnnouncement m.payload else e).id = m.origin ∧
        (if m.announces then e.takeAnnouncement m.payload else e).hop = m.hop := by
    intro e he
    split
    · exact he
    · exact he
  refine hannounced _ ?_
  cases hp : s.peer m.origin with
  | none => exact ⟨rfl, rfl⟩
  | some p =>
    have hid : p.id = m.origin := by simpa using List.find?_some hp
    dsimp only
    split
    · exact ⟨rfl, rfl⟩
    · exact ⟨hid, rfl⟩

theorem rosterTake_moves {s : State} {m : Message} (hlow : 1 ≤ m.hop.toNat) (hhigh : m.hop.toNat ≤ 62) :
    Moves s (s.rosterTake m) := by
  unfold State.rosterTake
  split
  · exact .refl
  · rename_i hown
    obtain ⟨hid, hhop⟩ := peerAfter_place s m
    refine (Move.roster s _ ?_).moves
    rintro ⟨hordered, hnodup, heach⟩
    have hsub : (removePeer m.origin s.roster).Sublist s.roster := List.filter_sublist
    refine ⟨insertPeer_ordered (hordered.sublist hsub) fun x hx => hid ▸ removePeer_id_ne hx, ?_, fun p hp => ?_⟩
    · refine ((insertPeer_perm _ _).map Peer.id).nodup_iff.mpr ?_
      rw [List.map_cons, List.nodup_cons, hid]
      refine ⟨fun hmem => ?_, hnodup.sublist (hsub.map _)⟩
      obtain ⟨x, hx, hxid⟩ := List.mem_map.mp hmem
      exact removePeer_id_ne hx hxid
    · rcases mem_insertPeer.mp hp with rfl | hp
      · rw [hid, hhop]
        exact ⟨hown, hlow, hhigh⟩
      · exact heach p (hsub.subset hp)

/-- What changes no id and no distance keeps the roster's order. -/
theorem mapRoster_moves {s : State} {f : Peer → Peer} (hid : ∀ p, (f p).id = p.id) (hhop : ∀ p, (f p).hop = p.hop) :
    Moves s (s.withRoster (s.roster.map f)) := by
  refine (Move.roster s _ ?_).moves
  rintro ⟨hordered, hnodup, heach⟩
  refine ⟨List.pairwise_map.mpr (hordered.imp fun {a b} h => ?_), ?_, fun p hp => ?_⟩
  · rw [Peer.before_iff, hid, hid, hhop, hhop, ← Peer.before_iff]
    exact h
  · rw [State.withRoster_roster, List.map_map]
    exact (List.map_congr_left fun p _ => hid p) ▸ hnodup
  · obtain ⟨q, hq, rfl⟩ := List.mem_map.mp hp
    rw [hid, hhop]
    exact heach q hq

theorem ageRoster_moves (s : State) : Moves s s.ageRoster := mapRoster_moves (fun _ => rfl) fun _ => rfl

theorem markSilent_moves (s : State) : Moves s s.markSilent := by
  refine mapRoster_moves (fun p => ?_) fun p => ?_
  all_goals
    split
    · rfl
    · rfl

theorem removeGone_moves (s : State) : Moves s s.removeGone := by
  refine .trans (Move.roster s _ ?_).moves (Moves.foldl dropOrphans_moves _ _)
  rintro ⟨hordered, hnodup, heach⟩
  have hsub := List.filter_sublist (l := s.roster) (p := fun p => !p.gone s.config.beaconInterval)
  exact ⟨hordered.sublist hsub, hnodup.sublist (hsub.map _), fun p hp => heach p (hsub.subset hp)⟩

/-! ### The step boundary (R48) -/

/-- The ages are counted only where no age that has reached its limit waits to be removed (R166; log 5). -/
theorem boundary_moves {s : State} (h : s.due.strayAges = false) : Moves s s.boundary := by
  unfold State.boundary
  dsimp only
  generalize hpassed : (if s.time.isSet && s.controller.state.takesPart then s.startPass s.time.step else s) = passed
  have hstart : Moves s passed ∧ passed.due.strayAges = false := by
    rw [← hpassed]
    split
    · exact ⟨startPass_moves s _, by rw [startPass_due]; exact h⟩
    · exact ⟨.refl, h⟩
  generalize hended : (if s.time.isSet then
    passed.ageRoster.withOrigins (passed.ageRoster.origins.map fun o => o.atBoundary s.time.step)
    else passed.ageRoster) = ended
  have hend : Moves s ended ∧ ended.due.strayAges = false := by
    have haged := hstart.1.trans (ageRoster_moves passed)
    have hdue : passed.ageRoster.due.strayAges = false := hstart.2
    rw [← hended]
    split
    · exact ⟨haged.trans (Move.origins _ _ (List.length_map _)).moves, hdue⟩
    · exact ⟨haged, hdue⟩
  refine hend.1.trans ((withResponder_moves ended (ended.responder.atBoundary ended.controller.state)).trans ?_)
  exact (Move.boundaryCounts (ended.withResponder (ended.responder.atBoundary ended.controller.state)) hend.2).moves

theorem settingBoundary_moves {s : State} (h : s.due.strayAges = false) : Moves s s.settingBoundary :=
  (mapTable_moves fun x => .inl (restampTombstone_key _ x)).trans (boundary_moves h)

/-! ### The work left due (log 5) -/

theorem takeTombstones_moves (s : State) : Moves s s.takeTombstones := by
  unfold State.takeTombstones
  split
  · exact (mapTable_moves fun x => freeOldTombstone_key _ x).trans (withDue_moves (by rfl))
  · exact .refl

theorem takePeerSilent_moves (s : State) : Moves s s.takePeerSilent := by
  unfold State.takePeerSilent
  split
  · exact (withDue_moves (by rfl)).trans (markSilent_moves _)
  · exact .refl

theorem takePeerGone_moves (s : State) : Moves s s.takePeerGone := by
  unfold State.takePeerGone
  split
  · exact (withDue_moves (by rfl)).trans (removeGone_moves _)
  · exact .refl

theorem takePublications_moves (s : State) : Moves s s.takePublications := by
  unfold State.takePublications
  split
  · exact ((withDue_moves (by rfl)).trans (timeOutPublications_moves _)).trans (feedReplays_moves _)
  · exact .refl

theorem takeJoinExpiry_moves (s : State) : Moves s s.takeJoinExpiry := by
  unfold State.takeJoinExpiry
  split
  · exact (withDue_moves (by rfl)).trans (judgeJoin_moves _)
  · exact .refl

theorem takeJoinPlace_moves (s : State) : Moves s s.takeJoinPlace := by
  unfold State.takeJoinPlace
  split
  · exact ((takeJoinExpiry_moves s).trans (withDue_moves (by rfl))).trans (placeWaitingJoin_moves _)
  · exact .refl

theorem takeWatch_moves (s : State) : Moves s s.takeWatch := by
  unfold State.takeWatch
  split
  · exact (withDue_moves (by rfl)).trans (expireWatch_moves _)
  · exact .refl

theorem withTime_moves {s : State} {x : Timebase} (h : s.mayMoveTo x) : Moves s (s.withTime x) := (Move.time s x h).moves

theorem endListen_moves {s : State} (h : s.controller.state = .listen) : Moves s s.endListen := by
  have hset : Moves s (s.withTime { s.time with isSet := true }) :=
    withTime_moves ⟨fun _ hphase htrim => ⟨hphase, htrim⟩, id, fun _ => rfl⟩
  exact hset.trans (enterAdmission_moves (.inr ⟨h, rfl⟩))

theorem takeListenEnd_moves (s : State) : Moves s s.takeListenEnd := by
  unfold State.takeListenEnd
  repeat' split
  · rename_i h
    exact (withDue_moves (by rfl)).trans (endListen_moves h.1)
  · exact withDue_moves (by rfl)
  · exact .refl

theorem sendBeacon_moves (s : State) : Moves s s.sendBeacon := by
  unfold State.sendBeacon
  dsimp only
  split
  case isTrue hq =>
    have hroom : s.ring.sendQueue.length < 8 := of_decide_eq_true hq
    exact .trans (.trans (.trans (.trans (withResponder_moves s _) (takeSequence_moves _)) (takeTarget_moves _))
      (enqueue_moves _ hroom)) (withResponder_moves _ _)
  case isFalse => exact (withResponder_moves s _).trans (count_moves _ _)

theorem takeBeacon_moves (s : State) : Moves s s.takeBeacon := by
  unfold State.takeBeacon
  repeat' split
  · exact (withDue_moves (by rfl)).trans (sendBeacon_moves _)
  · exact withDue_moves (by rfl)
  · exact .refl

theorem takeEntries_moves (s : State) : Moves s s.takeEntries := by
  unfold State.takeEntries
  split
  · exact (withDue_moves (by rfl)).trans (placePublications_moves _)
  · exact .refl

theorem settleBoundary_moves (s : State) : Moves s s.settleBoundary :=
  (takeTombstones_moves s).trans <| (takePeerSilent_moves _).trans <| (takePeerGone_moves _).trans <|
    (takePublications_moves _).trans <| (takeJoinExpiry_moves _).trans <| (takeWatch_moves _).trans <|
      (Move.strayAges _).moves.trans (takeBeacon_moves _)

theorem settleMoment_moves (s : State) : Moves s s.settleMoment :=
  (settleBoundary_moves s).trans (takeListenEnd_moves _)

theorem endMoment_moves (s : State) : Moves s s.endMoment := withDue_moves (by rfl)

theorem settle_moves (s : State) : Moves s s.settle :=
  (settleMoment_moves s).trans <| (takeJoinPlace_moves _).trans <| (takeEntries_moves _).trans (endMoment_moves _)

theorem settleBefore_moves (s : State) (row : Instr) : Moves s (s.settleBefore row) := by
  unfold State.settleBefore
  split
  · exact settleBoundary_moves s
  · exact settleMoment_moves s

/-! Once a boundary is finished, no age waits to be removed. -/

theorem settleBoundary_strayAges (s : State) : s.settleBoundary.due.strayAges = false := by
  rw [(settleBoundary_done s).1]
  rfl

theorem settleMoment_strayAges (s : State) : s.settleMoment.due.strayAges = false := by
  rw [(settleMoment_done s).1]
  rfl

theorem settle_strayAges (s : State) : s.settle.due.strayAges = false := by
  rw [settle_quiet s]
  rfl

theorem settleBefore_strayAges (s : State) (row : Instr) : (s.settleBefore row).due.strayAges = false := by
  unfold State.settleBefore
  split
  · exact settleBoundary_strayAges s
  · exact settleMoment_strayAges s

end Sys2Proof.Machine
end

section
/-! PROOFS. The moves of the timebase and the tick, of the ring port and the messages; and what a step is: a run of
moves, a reset, or a load. -/

namespace Sys2Proof.Machine

/-! ### Adoption (R55, R57, R58, R59) -/

/-- A time given by a phase below L, with no trim counted, is one to move to. -/
theorem mayMoveTo_start {s : State} {x : Timebase} (hphase : 0 < s.config.stepLength → x.phase < s.config.stepLength)
    (htrim : x.trimUsed = 0) (hrun : x.running = s.time.running) (hset : s.time.isSet = true → x.isSet = true) :
    s.mayMoveTo x :=
  ⟨fun hpos _ _ => ⟨hphase hpos, htrim ▸ Nat.zero_le _⟩, fun h => hrun.trans h, hset⟩

theorem setTimebase_moves {s : State} (n : Nat) (h : s.due.strayAges = false) : Moves s (s.setTimebase n) := by
  have hmove : s.mayMoveTo { s.time with step := s.stepOf n, phase := s.phaseOf n, isSet := true, trimUsed := 0 } :=
    mayMoveTo_start (fun hpos => Nat.mod_lt n hpos) rfl rfl fun _ => rfl
  exact (withTime_moves hmove).trans (settingBoundary_moves h)

theorem jumpTo_moves {s : State} (n : Nat) (h : s.due.strayAges = false) : Moves s (s.jumpTo n) := by
  unfold State.jumpTo
  dsimp only
  split
  · exact (count_moves s .jump).trans
      (withTime_moves ⟨fun hpos _ htrim => ⟨Nat.mod_lt n hpos, htrim⟩, id, id⟩)
  · have hmove : (s.count .jump).mayMoveTo { s.time with step := s.stepOf n, phase := s.phaseOf n, trimUsed := 0 } :=
      mayMoveTo_start (fun hpos => Nat.mod_lt n hpos) rfl rfl id
    exact ((count_moves s .jump).trans (withTime_moves hmove)).trans (boundary_moves h)

/-- A trim goes no further than the room that the step's trims have left (R58). -/
theorem trimBy_moves {s : State} (d : Nat) (h : s.due.strayAges = false) : Moves s (s.trimBy d) := by
  unfold State.trimBy
  dsimp only
  split
  · exact count_moves s _
  · generalize ha : min d (s.config.trimBound - s.time.trimUsed) = a
    generalize hc : (if a < d then (s.count .trim).count .trimLimited else s.count .trim) = counted
    have hcounted : Moves s counted ∧ counted.config = s.config ∧ counted.time = s.time ∧ counted.due = s.due := by
      rw [← hc]
      split
      · exact ⟨(count_moves s _).trans (count_moves _ _), rfl, rfl, rfl⟩
      · exact ⟨count_moves s _, rfl, rfl, rfl⟩
    obtain ⟨hmoves, hconfig, htime, hdue⟩ := hcounted
    have hbound : s.config.trimBound ≤ s.config.stepLength := Nat.div_le_self _ 8
    have hmove : ∀ x : Timebase, x.running = s.time.running → x.isSet = s.time.isSet →
        (s.time.phase < s.config.stepLength → s.time.trimUsed ≤ s.config.trimBound →
          x.phase < s.config.stepLength ∧ x.trimUsed ≤ s.config.trimBound) → Moves s (counted.withTime x) := by
      intro x hrun hset hx
      refine hmoves.trans (withTime_moves ?_)
      unfold State.mayMoveTo
      rw [hconfig, htime, hrun, hset]
      exact ⟨fun _ => hx, id, id⟩
    split
    · rename_i hwithin
      exact hmove _ rfl rfl fun _ htrim => ⟨hwithin, by dsimp only; omega⟩
    · have hnext := hmove
        { s.time with
          step := s.time.step + 1
          phase := s.time.phase + a - s.config.stepLength
          trimUsed := s.time.phase + a - s.config.stepLength } rfl rfl fun hphase htrim => by dsimp only; omega
      exact hnext.trans (boundary_moves (by simpa [hdue] using h))

theorem adopt_moves {s : State} (m : Message) (h : s.due.strayAges = false) : Moves s (s.adopt m) := by
  unfold State.adopt
  dsimp only
  repeat' split
  · exact setTimebase_moves _ h
  · exact .refl
  · exact jumpTo_moves _ h
  · exact .refl
  · exact trimBy_moves _ h

theorem offerStamp_moves {s : State} (m : Message) (h : s.due.strayAges = false) : Moves s (s.offerStamp m) := by
  unfold State.offerStamp
  split
  · exact adopt_moves m h
  · exact .refl

/-! ### The tick (R47, R66, R82) -/

theorem advanceStep_moves {s : State} (h : s.due.strayAges = false) : Moves s s.advanceStep := by
  have hmove : s.mayMoveTo { s.time with step := s.time.step + 1, phase := 0, trimUsed := 0 } :=
    mayMoveTo_start id rfl rfl id
  exact (withTime_moves hmove).trans (boundary_moves h)

theorem tickTime_moves {s : State} (h : s.due.strayAges = false) : Moves s s.tickTime := by
  unfold State.tickTime
  repeat' split
  · rename_i hphase
    exact withTime_moves ⟨fun _ _ htrim => ⟨hphase, htrim⟩, id, id⟩
  · exact advanceStep_moves h
  · exact .refl

theorem tickTrigger_moves (s : State) : Moves s s.tickTrigger := by
  unfold State.tickTrigger
  split
  · exact (Move.trigger s { s.trigger with countdown := s.trigger.countdown - 1 } rfl).moves
  · exact .refl

theorem tickPass_moves (s : State) : Moves s s.tickPass := by
  unfold State.tickPass
  split
  · exact .refl
  · refine .trans (Move.composer s { s.composer with pass := some _ } id).moves
      (Move.books _ s.loader s.counters s.responder s.now (s.freeCount + 1)).moves

theorem tickCounts_moves (s : State) : Moves s s.tickCounts :=
  (tickPulse_moves s).trans <| (tickTrigger_moves _).trans <| (tickPass_moves _).trans
    (Move.books _ s.loader.tick _ _ (s.now + 1) _).moves

theorem passTick_moves {s : State} (h : s.due.strayAges = false) : Moves s s.passTick :=
  (tickCounts_moves s).trans (tickTime_moves (by simpa using h))

theorem passDeadline_moves (s : State) : Moves s s.passDeadline := by
  unfold State.passDeadline
  repeat' split
  · exact completePass_moves s
  · exact .refl
  · exact .refl

theorem clockMoments_moves (s : State) : Moves s s.clockMoments :=
  (takeCycleStart_moves s).trans (passDeadline_moves _)

theorem takeSample_moves (s : State) (levels : BitVec 8) : Moves s (s.takeSample levels) :=
  (Move.trigger s _ List.length_mapIdx).moves

theorem sampleLines_moves {s : State} (levels : BitVec 8) (between : Bool) (h : s.due.strayAges = false) :
    Moves s (s.sampleLines levels between) := by
  unfold State.sampleLines
  dsimp only
  refine .trans ?_ (takeActions_moves _ _)
  split
  · exact (takeSample_moves s levels).trans <| (clockMoments_moves _).trans <|
      (passTick_moves (by simpa using h)).trans (settle_moves _)
  · exact takeSample_moves s levels

theorem sampleLines_strayAges {s : State} (levels : BitVec 8) (between : Bool) (h : s.due.strayAges = false) :
    (s.sampleLines levels between).due.strayAges = false := by
  unfold State.sampleLines
  dsimp only
  have hdue : ∀ (t : State) l, (t.takeActions l).due = t.due := by simp
  rw [hdue]
  split
  · exact settle_strayAges _
  · exact h

theorem takeDueSample_moves {s : State} (h : s.due.strayAges = false) :
    Moves s s.takeDueSample ∧ s.takeDueSample.due.strayAges = false := by
  unfold State.takeDueSample
  split
  · exact ⟨sampleLines_moves _ _ h, sampleLines_strayAges _ _ h⟩
  · exact ⟨.refl, h⟩

theorem settleClocks_moves {s : State} (h : s.due.strayAges = false) :
    Moves s s.settleClocks ∧ s.settleClocks.due.strayAges = false := by
  obtain ⟨hmoves, hdue⟩ := takeDueSample_moves (s := s.clockMoments) (by simpa using h)
  exact ⟨(clockMoments_moves s).trans hmoves, hdue⟩

theorem tick_moves (s : State) : Moves s s.tick := by
  obtain ⟨hmoves, hdue⟩ := settleClocks_moves (settle_strayAges s)
  exact (settle_moves s).trans (hmoves.trans (passTick_moves hdue))

/-! ### The ring port and the messages (R115 to R133) -/

theorem placeAnswer_moves (s : State) (m : Message) (r : ResultCode) (data : List Byte) :
    Moves s (s.placeAnswer m r data).2 := by
  unfold State.placeAnswer
  split
  · rename_i h
    have hroom : s.ring.sendQueue.length < 8 := of_decide_eq_true ((Bool.and_eq_true_iff.mp h).2)
    exact (takeSequence_moves s).trans (enqueue_moves _ hroom)
  · exact count_moves s _

theorem answerRestart_moves (m : Message) (s : State) (i : Nat) : Moves s (answerRestart m s i) := by
  have hplaced := placeAnswer_moves s m .ok []
  unfold answerRestart
  dsimp only
  repeat' split
  · exact (count_moves s _).trans (performRestart_moves _)
  · exact hplaced.trans (requestRestart_moves _ _)
  · exact hplaced.trans (performRestart_moves _)

theorem requestContent_moves {act : Message → State → Nat → State} {s : State} {m : Message}
    (h : ∀ i, Moves s (act m s i)) : Moves s (requestContent act m s).2 := by
  unfold requestContent
  split
  · exact .refl
  · exact count_moves s _
  · exact placeAnswer_moves s m _ _
  · exact h _

theorem joinContent_moves (m : Message) (s : State) : Moves s (joinContent m s).2 := by
  unfold joinContent
  split
  · exact .refl
  · exact (purgeOrigin_moves s _).trans (Move.origins _ _ List.length_mapIdx).moves

theorem cueContent_moves (m : Message) (s : State) : Moves s (cueContent m s).2 := by
  unfold cueContent
  split
  · exact count_moves s _
  · exact takeCue_moves s _ _

/-- What each kind of content does is a run of moves. -/
theorem rowContent_moves {row : Instr} {content : Message → State → Verdict × State}
    (h : rowContent row = some content) (m : Message) (s : State) : Moves s (content m s).2 := by
  cases row <;> simp only [rowContent, Option.some.injEq, reduceCtorEq] at h <;> subst h
  case beacon | answer => exact .refl
  case join => exact joinContent_moves m s
  case cue => exact cueContent_moves m s
  case release => exact takeRelease_moves s _ _ _ _ _
  case clear => exact takeClear_moves s _ _ _
  case clearCounters =>
    exact requestContent_moves fun _ => (withCounters_moves s _).trans (placeAnswer_moves _ m _ _)
  case restart => exact requestContent_moves fun i => answerRestart_moves m s i
  case badSelector => exact requestContent_moves fun _ => .refl
  all_goals exact requestContent_moves fun _ => placeAnswer_moves s m _ _

theorem hear_moves {s : State} {m : Message} (hlow : 1 ≤ m.hop.toNat) (hhigh : m.hop.toNat ≤ 62)
    (h : s.due.strayAges = false) : Moves s (s.hear m) := by
  have hoffered : Moves s ((s.rosterTake m).offerStamp m) :=
    (rosterTake_moves hlow hhigh).trans (offerStamp_moves m (by simpa using h))
  unfold State.hear
  dsimp only
  split
  · exact hoffered.trans (settleBoundary_moves _)
  · exact hoffered.trans (settleMoment_moves _)

/-- A message within the hop limit leaves with a hop count of 1 to 62 (R122). -/
theorem Message.hopped_some {m h : Message} (hh : m.hopped = some h) : 1 ≤ h.hop.toNat ∧ h.hop.toNat ≤ 62 := by
  unfold Message.hopped at hh
  split at hh
  · cases hh
    have hone : (1 : BitVec 6).toNat = 1 := rfl
    rw [BitVec.toNat_add, hone]
    omega
  · cases hh

theorem acceptKnown_moves {row : Instr} {content : Message → State → Verdict × State}
    (hrow : rowContent row = some content) (m : Message) {s : State} (h : s.due.strayAges = false) :
    Moves s (s.acceptKnown m content) := by
  unfold State.acceptKnown
  split
  · exact count_moves s _
  · rename_i heard hhop
    obtain ⟨hlow, hhigh⟩ := Message.hopped_some hhop
    refine .trans ?_ (forward_moves _ _)
    refine (hear_moves hlow hhigh h).trans ?_
    unfold State.handOn
    split
    · exact rowContent_moves hrow _ _
    · exact count_moves _ _

theorem acceptUnknown_moves (s : State) (m : Message) : Moves s (s.acceptUnknown m) := by
  unfold State.acceptUnknown
  split
  · exact count_moves s _
  · exact (count_moves s _).trans (forward_moves _ _)

theorem takeStripped_moves (m : Message) (s : State) : Moves s (takeStripped m s) := by
  unfold takeStripped
  split
  · exact (monitorReturn_moves s).trans ((publicationReturn_moves _ m).trans (controllerReturn_moves _ _))
  · exact (Move.strayEcho s).moves

theorem endReception_moves (s : State) (row : Instr) {take : Message → State → State}
    (h : ∀ m t, t.due.strayAges = false → Moves t (take m t)) : Moves s (s.endReception row take) := by
  have hready := settleBefore_moves s row
  have hdue := settleBefore_strayAges s row
  unfold State.endReception
  dsimp only
  repeat' split
  · exact hready
  · exact hready.trans ((emptyReceive_moves _).trans (count_moves _ _))
  · exact hready.trans ((emptyReceive_moves _).trans (count_moves _ _))
  · exact hready.trans ((emptyReceive_moves _).trans (h _ _ hdue))
  · exact hready

/-- The END of a message is a run of moves, whichever row reports it. -/
theorem messageRow_moves {row : Instr} (hrow : rowEndsReception row = true) {s t : State} (h : exec row s = .next t) :
    Moves s t := by
  obtain ⟨take, hexec, htake⟩ := exec_of_rowEndsReception hrow
  rw [hexec] at h
  cases h
  refine endReception_moves s row fun m u hu => ?_
  rcases htake with ⟨content, hcontent, rfl⟩ | ⟨-, rfl⟩ | ⟨-, rfl⟩
  · exact acceptKnown_moves hcontent m hu
  · exact acceptUnknown_moves u m
  · exact takeStripped_moves m u

end Sys2Proof.Machine
end

section
/-! PROOFS. What a step is: a run of moves, or one of the four changes of reset and load; and the invariants that every
step keeps (R4, R7, R100, R115, R138). -/

namespace Sys2Proof.Machine

/-! ### The moves of the link -/

/-- A move of a block, or of the link: the ring port is replaced within its bounds, and its mode and its transmission
change (R118, R131, R134, R135). -/
inductive LinkMove : State → State → Prop
  | block {s t : State} (h : Move s t) : LinkMove s t
  | ring (s : State) (r : RingPort) (h : s.ring.bounded → r.bounded) : LinkMove s (s.withRing r)

/-- A run of moves of blocks and of the link. -/
abbrev LinkMoves : State → State → Prop := Relation.ReflTransGen LinkMove

theorem Moves.linkMoves {s t : State} (h : Moves s t) : LinkMoves s t :=
  h.keep (P := LinkMoves s) (fun hmove hs => hs.tail (.block hmove)) .refl

theorem LinkMoves.refl {s : State} : LinkMoves s s := Relation.ReflTransGen.refl

theorem LinkMoves.of_ring (s : State) {r : RingPort} (h : s.ring.bounded → r.bounded) :
    LinkMoves s (s.withRing r) :=
  .single (.ring s r h)

/-- A property that every move of a block keeps, and every change of the ring port within its bounds, holds after a run
of moves. -/
theorem LinkMoves.keep {P : State → Prop} (hP : ∀ {s t : State}, Move s t → P s → P t)
    (hring : ∀ (s : State) r, (s.ring.bounded → r.bounded) → P s → P (s.withRing r)) {s t : State}
    (h : LinkMoves s t) (hs : P s) : P t := by
  induction h with
  | refl => exact hs
  | tail _ hmove ih =>
    cases hmove with
    | block hmove => exact hP hmove ih
    | ring r h => exact hring _ r h ih

theorem grantOwn_moves {s : State} {o : OwnMessage} {rest : List OwnMessage} (h : s.ring.sendQueue = o :: rest) :
    LinkMoves s (s.grantOwn o rest) := by
  have hreports : ∀ t : State, Moves t
      ((t.recordSent o.kind o.sequence).recordJoinSent o.kind o.sequence).startWatch.reportRoom := fun t =>
    (recordSent_moves t _ _).trans <| (recordJoinSent_moves _ _ _).trans <|
      (startWatch_moves _).trans (withDue_moves (by rfl))
  refine .trans (LinkMoves.of_ring s ?_) (hreports _).linkMoves
  rintro ⟨hinsertion, hqueue, -, hnodup, -, hreceive⟩
  rw [h, List.length_cons] at hqueue
  obtain ⟨hlen, hnodup⟩ := enterRecent_bounded hnodup o.sequence
  exact ⟨hinsertion, by dsimp only; omega, hlen, hnodup, Nat.zero_le 16, hreceive⟩

/-- A forwarded message passes by an own one that is eligible 16 times at the most (R131). -/
theorem grantForwarded_moves {s : State} {w : Waiting} {rest : List Waiting} (b : Bool)
    (h : s.ring.insertion = w :: rest) (hguard : s.ownEligible = true → s.ring.guardCount < 16) :
    LinkMoves s (s.grantForwarded w rest b) := by
  refine LinkMoves.of_ring s ?_
  rintro ⟨hinsertion, hqueue, hrecent, hnodup, -, hreceive⟩
  rw [h, List.length_cons] at hinsertion
  refine ⟨by dsimp only; omega, hqueue, hrecent, hnodup, ?_, hreceive⟩
  dsimp only
  split
  · exact hguard ‹_›
  · exact Nat.zero_le 16

theorem grant_moves (s : State) (b : Bool) : LinkMoves s (s.grant b) := by
  unfold State.grant
  split
  · exact .refl
  · split
    case h_1 => exact .refl
    case h_2 hqueue =>
      split
      · exact grantOwn_moves hqueue
      · exact .refl
    case h_3 hinsertion hqueue =>
      exact grantForwarded_moves b hinsertion fun h => by simp [State.ownEligible, hqueue] at h
    case h_4 hinsertion hqueue =>
      split
      · exact grantOwn_moves hqueue
      · rename_i h
        refine grantForwarded_moves b hinsertion fun hown => ?_
        simpa [hown] using h

theorem endTransmission_moves (s : State) : LinkMoves s s.endTransmission := by
  have hidle : LinkMoves s (s.withRing { s.ring with transmitter := .idle }) := LinkMoves.of_ring s id
  unfold State.endTransmission
  dsimp only
  split
  · exact .refl
  · exact hidle
  · exact hidle.trans (answerEnded_moves _ _).linkMoves
  · exact hidle

/-! ### A step: a run of moves, or a reset or a load -/

/-- The changes that FULL_RESET, RESET_RELEASE and LOAD_COMPLETE make (R154, R155, R156). -/
inductive ResetOrLoad (s : State) : State → Prop
  | fullReset : ResetOrLoad s s.fullReset
  | release (h : s.resetHeld = true) : ResetOrLoad s { s with resetHeld := false, loader := .reading 0 }
  | unconfigured (h : s.loader ≠ .idle) : ResetOrLoad s s.enterUnconfigured
  | listen (h : s.loader ≠ .idle) (record : List Byte) (c : NodeConfig) (hc : loadRecord record = some c) :
      ResetOrLoad s (s.enterListen c)

/-- The commands of reset and load. -/
def resetsOrLoads : Instr → Bool
  | .fullReset | .resetRelease | .loadComplete _ => true
  | _ => false

/-- A command of reset or load makes its change, or is turned away. -/
theorem resetRow_cases {c : Instr} (hc : resetsOrLoads c = true) {s t : State} (h : exec c s = .next t) :
    t = s ∨ ResetOrLoad s t := by
  cases c
  case fullReset => cases h; exact .inr .fullReset
  case resetRelease =>
    cases h
    split
    · exact .inr (.release ‹_›)
    · exact .inl rfl
  case loadComplete record =>
    cases h
    split
    · exact .inl rfl
    · rename_i cycles hreading
      have hloader : s.loader ≠ .idle := by simp [hreading]
      repeat' split
      · exact .inl rfl
      · exact .inr (.unconfigured hloader)
      · rename_i c hc
        exact .inr (.listen hloader record c hc)
  all_goals exact absurd hc Bool.false_ne_true

/-- The rows of the link that turn its mode or let it repeat (R118, R135). -/
theorem linkModeRow_moves {s t : State} :
    (exec .linkModeSwitch s = .next t → LinkMoves s t) ∧
      (exec .passThroughRepeatingResumed s = .next t → LinkMoves s t) := by
  refine ⟨fun h => ?_, fun h => ?_⟩
  all_goals
    cases h
    split
    · exact LinkMoves.of_ring s id
    · exact .refl

/-- The rows of a reception that is no END of a message (R116). -/
theorem receptionRow_moves {s t : State} :
    (∀ bytes, exec (.receptionStart bytes) s = .next t → Moves s t) ∧
      (∀ symbol, exec (.receptionAborted symbol) s = .next t → Moves s t) ∧
      (exec .receptionOverlong s = .next t → Moves s t) := by
  have haborted : Moves s (s.emptyReceive.count .malformed) := (emptyReceive_moves s).trans (count_moves _ _)
  refine ⟨fun bytes h => ?start, fun symbol h => ?aborted, fun h => ?overlong⟩
  all_goals cases h
  case start =>
    repeat' split
    · exact .refl
    · exact beginReception_moves s bytes
    · exact (count_moves s _).trans (beginReception_moves _ bytes)
  case aborted =>
    dsimp only
    split
    · cases symbol with
      | idle => exact haborted
      | undecodable => exact haborted
      | start following => exact haborted.trans (beginReception_moves _ following)
    · exact .refl
  case overlong =>
    split
    · exact haborted
    · exact .refl

theorem ordinaryAdvance_moves {s t : State} (h : exec .ordinaryAdvance s = .next t) : Moves s t := by
  cases h
  have hready := settleMoment_moves s
  dsimp only
  split
  · obtain ⟨hclocks, hdue⟩ := settleClocks_moves (settleMoment_strayAges s)
    exact hready.trans (hclocks.trans ((endMoment_moves _).trans (passTick_moves hdue)))
  · exact hready

theorem triggerSample_moves {levels : BitVec 8} {between : Bool} {s t : State}
    (h : exec (.triggerSample levels between) s = .next t) : Moves s t := by
  cases h
  dsimp only
  split
  · exact (settle_moves s).trans (sampleLines_moves _ _ (settle_strayAges s))
  · exact settle_moves s

/-- Every command but those of reset and load is a run of moves. -/
theorem exec_moves {c : Instr} (hc : resetsOrLoads c = false) {s t : State} (h : exec c s = .next t) :
    LinkMoves s t := by
  cases c
  case fullReset | resetRelease | loadComplete => exact Bool.noConfusion hc
  case linkModeSwitch => exact linkModeRow_moves.1 h
  case passThroughRepeatingResumed => exact linkModeRow_moves.2 h
  case grant b => cases h; exact (settle_moves s).linkMoves.trans (grant_moves _ b)
  case transmissionEnd => cases h; exact (settle_moves s).linkMoves.trans (endTransmission_moves _)
  all_goals refine Moves.linkMoves ?_
  case receptionStart => exact receptionRow_moves.1 _ h
  case receptionAborted => exact receptionRow_moves.2.1 _ h
  case receptionOverlong => exact receptionRow_moves.2.2 h
  case ordinaryAdvance => exact ordinaryAdvance_moves h
  case triggerSample => exact triggerSample_moves h
  case placeWaitingEntries => cases h; exact takeEntries_moves s
  case placeWaitingJoin => cases h; exact takeJoinPlace_moves s
  case tombstoneFreed => cases h; exact takeTombstones_moves s
  case passComplete => cases h; exact (takeTombstones_moves s).trans (completePass_moves _)
  case cycleStart => cases h; exact takeCycleStart_moves s
  case publicationTimeout => cases h; exact takePublications_moves s
  case watchExpiry => cases h; exact takeWatch_moves s
  case joinExpiry => cases h; exact takeJoinExpiry_moves s
  case listenEnd => cases h; exact takeListenEnd_moves s
  case peerSilent => cases h; exact takePeerSilent_moves s
  case peerGone => cases h; exact (takeTombstones_moves s).trans (takePeerGone_moves _)
  case beaconDue => cases h; exact (takeTombstones_moves s).trans (takeBeacon_moves _)
  case strayEchoAgeExpiry => cases h; exact (Move.strayAges s).moves
  all_goals exact messageRow_moves rfl h

theorem exec_cases {c : Instr} {s t : State} (h : exec c s = .next t) : LinkMoves s t ∨ ResetOrLoad s t := by
  cases hc : resetsOrLoads c with
  | true => exact (resetRow_cases hc h).imp (fun heq => (Moves.of_eq heq).linkMoves) id
  | false => exact .inl (exec_moves hc h)

/-- A step runs the front command on the queue's rest, or lets a tick pass. -/
theorem step_cases {s t : State} (h : step s = .next t) :
    ∃ rest : List Instr, LinkMoves { s with pending := rest } t ∨ ResetOrLoad { s with pending := rest } t := by
  unfold step at h
  split at h
  case h_1 =>
    cases h
    exact ⟨s.pending, .inl (tick_moves s).linkMoves⟩
  case h_2 c rest _ => exact ⟨rest, exec_cases h⟩

/-- What every move keeps, and every reset and load too, every step keeps. -/
theorem step_keeps {P : State → Prop} (hqueue : ∀ (s : State) rest, P s → P { s with pending := rest })
    (hmove : ∀ {s t : State}, Move s t → P s → P t)
    (hring : ∀ (s : State) r, (s.ring.bounded → r.bounded) → P s → P (s.withRing r))
    (hload : ∀ {s t : State}, ResetOrLoad s t → P s → P t) {s t : State} (h : step s = .next t) (hs : P s) : P t := by
  obtain ⟨rest, hmoves | hreset⟩ := step_cases h
  · exact hmoves.keep hmove hring (hqueue s rest hs)
  · exact hload hreset (hqueue s rest hs)

/-! ### Sizes (R7, R28, R65, R81, R96) -/

theorem strayEcho_record (s : State) : s.strayEcho.composer.record = s.composer.record := by
  unfold State.strayEcho State.enterClash
  dsimp only
  repeat' split
  all_goals rfl

theorem Move.keeps_sizes {s t : State} (h : Move s t) (hs : s.sizesFixed) : t.sizesFixed := by
  obtain ⟨htable, horigins, hrecord, hactive, hpending, hinputs⟩ := hs
  cases h with
  | table l hlen _ => exact ⟨hlen.trans htable, horigins, hrecord, hactive, hpending, hinputs⟩
  | composer c h => exact ⟨htable, horigins, h hrecord, hactive, hpending, hinputs⟩
  | pulse p h => exact ⟨htable, horigins, hrecord, (h ⟨hactive, hpending⟩).1, (h ⟨hactive, hpending⟩).2, hinputs⟩
  | trigger u h => exact ⟨htable, horigins, hrecord, hactive, hpending, h.trans hinputs⟩
  | origins l h => exact ⟨htable, h.trans horigins, hrecord, hactive, hpending, hinputs⟩
  | strayAges => simp [State.sizesFixed, *]
  | strayEcho => simp [State.sizesFixed, strayEcho_record, *]
  | restart =>
    refine ⟨List.length_replicate, List.length_replicate, List.length_replicate, hactive, List.length_replicate, ?_⟩
    simpa using hinputs
  | _ => exact ⟨htable, horigins, hrecord, hactive, hpending, hinputs⟩

theorem ResetOrLoad.keeps_sizes {s t : State} (h : ResetOrLoad s t) (hs : s.sizesFixed) : t.sizesFixed := by
  cases h with
  | fullReset => exact ⟨rfl, rfl, rfl, rfl, rfl, rfl⟩
  | _ => exact hs

/-- Settles O53, from the sizes that each move and each reset or load keeps. -/
theorem sizesAreKept : Obligations.SizesAreKept :=
  fun _ _ hs h => step_keeps (P := fun s => s.sizesFixed) (fun _ _ => id)
    Move.keeps_sizes (fun _ _ _ => id) ResetOrLoad.keeps_sizes h hs

/-! ### The ring port (R115, R127, R129, R130, R131) -/

theorem Move.keeps_ring {s t : State} (h : Move s t) (hs : s.ring.bounded) : t.ring.bounded := by
  cases h with
  | ring r _ h => exact h hs
  | strayAges => simpa using hs
  | strayEcho => simpa using hs
  | restart =>
    obtain ⟨hinsertion, -, -, -, -, hreceive⟩ := hs
    exact ⟨hinsertion, Nat.zero_le 8, Nat.zero_le 16, List.nodup_nil, Nat.zero_le 16, hreceive⟩
  | _ => exact hs

theorem ResetOrLoad.keeps_ring {s t : State} (h : ResetOrLoad s t) (hs : s.ring.bounded) : t.ring.bounded := by
  cases h with
  | fullReset =>
    exact ⟨Nat.zero_le 4, Nat.zero_le 8, Nat.zero_le 16, List.nodup_nil, Nat.zero_le 16, Nat.zero_le 50⟩
  | _ => exact hs

/-- Settles O54, from the bounds that each move and each reset or load keeps. -/
theorem ringBoundsAreKept : Obligations.RingBoundsAreKept :=
  fun _ _ hs h => step_keeps (P := fun s => s.ring.bounded) (fun _ _ => id)
    Move.keeps_ring (fun _ _ => id) ResetOrLoad.keeps_ring h hs

/-! ### The publication list (R100) -/

theorem publicationsBounded_nil : ([] : List Publication).length ≤ 8 ∧
    (([] : List Publication).map Publication.slot).Nodup ∧
    ∀ e ∈ ([] : List Publication), 1 ≤ e.attempt ∧ e.attempt ≤ 3 :=
  ⟨Nat.zero_le 8, List.nodup_nil, by simp⟩

theorem Move.keeps_publications {s t : State} (h : Move s t) (hs : s.publicationsBounded) : t.publicationsBounded := by
  cases h with
  | publications l h => exact h hs
  | strayAges => simpa [State.publicationsBounded] using hs
  | strayEcho => simpa [State.publicationsBounded] using hs
  | restart => exact publicationsBounded_nil
  | _ => exact hs

theorem ResetOrLoad.keeps_publications {s t : State} (h : ResetOrLoad s t) (hs : s.publicationsBounded) :
    t.publicationsBounded := by
  cases h with
  | fullReset => exact publicationsBounded_nil
  | _ => exact hs

/-- Settles O55, from the bounds that each move and each reset or load keeps. -/
theorem publicationBoundsAreKept : Obligations.PublicationBoundsAreKept :=
  fun _ _ hs h => step_keeps (P := fun s => s.publicationsBounded) (fun _ _ => id) Move.keeps_publications
    (fun _ _ _ => id) ResetOrLoad.keeps_publications h hs

/-! ### The keys of the cue table (R4) -/

theorem keysUnique_empty : ((List.replicate 48 Slot.free).filterMap Slot.key).Nodup := by
  rw [List.filterMap_replicate_of_none rfl]
  exact List.nodup_nil

theorem Move.keeps_keys {s t : State} (h : Move s t) (hs : s.keysUnique) : t.keysUnique := by
  cases h with
  | table l _ hkeys => exact hkeys hs
  | strayAges => simpa [State.keysUnique] using hs
  | strayEcho => simpa [State.keysUnique] using hs
  | restart => exact keysUnique_empty
  | _ => exact hs

theorem ResetOrLoad.keeps_keys {s t : State} (h : ResetOrLoad s t) (hs : s.keysUnique) : t.keysUnique := by
  cases h with
  | fullReset => exact keysUnique_empty
  | _ => exact hs

/-- Settles O56, from the keys that each move and each reset or load keeps. -/
theorem keysStayUnique : Obligations.KeysStayUnique :=
  fun _ _ hs h => step_keeps (P := fun s => s.keysUnique) (fun _ _ => id)
    Move.keeps_keys (fun _ _ _ => id) ResetOrLoad.keeps_keys h hs

/-! ### The roster (R138, R139, R145) -/

/-- No move changes the loaded record (R155). -/
theorem Move.config {s t : State} (h : Move s t) : t.config = s.config := by
  cases h with
  | strayAges => simp
  | strayEcho => simp
  | restart => simp
  | boundaryCounts => simp
  | _ => rfl

theorem Moves.config {s t : State} (h : Moves s t) : t.config = s.config :=
  h.keep (P := fun u => u.config = s.config) (fun hmove hs => hmove.config.trans hs) rfl

theorem rosterOrdered_of_nil {s : State} (h : s.roster = []) : s.rosterOrdered := by
  simp [State.rosterOrdered, h]

theorem Move.keeps_roster {s t : State} (h : Move s t) (hs : s.rosterOrdered) : t.rosterOrdered := by
  cases h with
  | roster l h => exact h hs
  | strayAges => simpa [State.rosterOrdered, State.ownId] using hs
  | strayEcho => simpa [State.rosterOrdered, State.ownId] using hs
  | restart => exact rosterOrdered_of_nil rfl
  | _ => exact hs

/-- While the record is read, the node is LOADING and every block is at its values after full reset (R154). -/
theorem asleepAtReset_of_loading {s : State} (h : s.asleepAtReset) (hl : s.loader ≠ .idle) : s.blocksAtReset := by
  obtain ⟨-, hloading, hreset⟩ := h
  refine hreset ?_
  rw [State.asleep, hloading (.inr hl)]
  rfl

/-- Settles O57: a move keeps the order, and the own id changes only where the roster is empty. -/
theorem rosterStaysOrdered : Obligations.RosterStaysOrdered := by
  intro s t hasleep hs h
  obtain ⟨rest, hmoves | hreset⟩ := step_cases h
  · exact hmoves.keep (P := fun u => u.rosterOrdered) Move.keeps_roster (fun _ _ _ => id) hs
  · cases hreset with
    | fullReset => exact rosterOrdered_of_nil rfl
    | listen hl record c hc =>
      obtain ⟨-, -, -, -, -, -, -, -, hroster, -⟩ := asleepAtReset_of_loading hasleep hl
      exact rosterOrdered_of_nil hroster
    | _ => exact hs

end Sys2Proof.Machine
end

section
/-! PROOFS. The invariants that tie the node state to the timebase (R46, R47, R50), the node controller's bounds (R152,
R166), and the values that stand while the node is LOADING or UNCONFIGURED (R154, R156). -/

namespace Sys2Proof.Machine

/-! ### The classes of node states -/

theorem NodeState.strips_of_sendsOwn {n : NodeState} (h : n.sendsOwn = true) : n.strips = true := by
  cases n <;> simp_all [NodeState.sendsOwn, NodeState.strips]

theorem NodeState.takesPart_of_strips {n : NodeState} (h : n.strips = true) : n.takesPart = true := by
  cases n <;> simp_all [NodeState.takesPart, NodeState.strips]

/-- The controller leaves no state in which it strips but for a state that strips. -/
theorem strips_of_mayEnter {s : State} {n : NodeState} (h : s.mayEnter n) (hn : n.strips = true) :
    s.controller.state.strips = true := by
  rcases h with rfl | ⟨h, -⟩ | ⟨h, -, -⟩
  · exact hn
  · exact NodeState.strips_of_sendsOwn h
  · rw [h]; rfl

/-- The controller takes part where it has taken part. -/
theorem takesPart_of_mayEnter {s : State} {n : NodeState} (h : s.mayEnter n) :
    n.takesPart = s.controller.state.takesPart := by
  rcases h with rfl | ⟨h, hn⟩ | ⟨h, -, rfl⟩
  · rfl
  · rw [NodeState.takesPart_of_strips (NodeState.strips_of_sendsOwn h),
      NodeState.takesPart_of_strips (NodeState.strips_of_sendsOwn hn)]
  · rw [h]; rfl

/-- What a stray echo does to the node controller: it is not judged, its age joins the list, or it makes the third age
and the node enters CLASH (R166, R167). -/
theorem strayEcho_controller (s : State) :
    s.strayEcho.controller = s.controller ∨
      (s.controller.state.sendsOwn = true ∧
        s.strayEcho.controller =
          { s.controller with
            strayAges := s.controller.strayAges ++ [0]
            state := if s.controller.strayAges.length < 2 then s.controller.state else .clash }) := by
  unfold State.strayEcho
  dsimp only
  split
  case isTrue h =>
    refine .inr ⟨h.1, ?_⟩
    by_cases hfew : s.controller.strayAges.length < 2
    · rw [if_neg (by simpa using hfew), if_pos hfew]
      rfl
    · rw [if_pos (by simpa using Nat.not_lt.mp hfew), if_neg hfew]
      unfold State.enterClash
      dsimp only
      split <;> rfl
  case isFalse => exact .inl rfl

/-! ### The timebase (R46, R47, R50) -/

/-- The ranges of R155 that the bounds below rest on. -/
theorem NodeConfig.bounds_of_inRange {c : NodeConfig} (h : c.inRange = true) :
    500 ≤ c.stepLength ∧ c.circuitLimit ≤ 16 ∧ 4 ≤ c.beaconInterval ∧ c.beaconInterval ≤ 64 := by
  simp only [NodeConfig.inRange, Bool.and_eq_true, decide_eq_true_eq] at h
  omega

theorem loadRecord_inRange {record : List Byte} {c : NodeConfig} (h : loadRecord record = some c) :
    c.inRange = true := by
  unfold loadRecord at h
  dsimp only at h
  repeat' split at h
  all_goals cases h
  assumption

theorem blank_inRange : NodeConfig.blank.inRange = true := by decide

/-- A node that takes no part needs a time below L alone. -/
theorem timeSound_of_silent {s : State} (hphase : s.time.phase < s.config.stepLength)
    (htrim : s.time.trimUsed ≤ s.config.trimBound) (hn : s.controller.state.takesPart = false) : s.timeSound := by
  refine ⟨hphase, htrim, fun h => ?_, fun h => ?_⟩
  · exact absurd h (by rw [hn]; exact Bool.false_ne_true)
  · exact absurd (NodeState.takesPart_of_strips (NodeState.strips_of_sendsOwn h)) (by rw [hn]; exact Bool.false_ne_true)

theorem Move.keeps_time {s t : State} (h : Move s t) (hs : s.configInRange ∧ s.timeSound) :
    t.configInRange ∧ t.timeSound := by
  have hconfig := h.config
  obtain ⟨hrange, hphase, htrim, hrun, hset⟩ := hs
  refine ⟨by rw [State.configInRange, hconfig]; exact hrange, ?_⟩
  have hpos : 0 < s.config.stepLength := lt_of_lt_of_le (by decide) (NodeConfig.bounds_of_inRange hrange).1
  cases h with
  | time x h =>
    obtain ⟨hbounds, hrunning, hisSet⟩ := h
    obtain ⟨hphase', htrim'⟩ := hbounds hpos hphase htrim
    exact ⟨hphase', htrim', fun hn => hrunning (hrun hn), fun hn => hisSet (hset hn)⟩
  | controller c _ _ hstate =>
    refine ⟨hphase, htrim, fun hn => hrun (takesPart_of_mayEnter hstate ▸ hn), fun hn => ?_⟩
    rcases hstate with hsame | ⟨hsends, -⟩ | ⟨-, hisSet, -⟩
    · exact hset (hsame ▸ hn)
    · exact hset hsends
    · exact hisSet
  | strayAges =>
    unfold State.takeStrayAges State.expireStrayAges
    dsimp only
    repeat' split
    all_goals exact ⟨hphase, htrim, hrun, hset⟩
  | strayEcho =>
    rw [State.timeSound, hconfig, (State.strayEcho_frame s).2.2.2.2.1]
    refine ⟨hphase, htrim, fun hn => hrun ?_, fun hn => ?_⟩
    all_goals rcases strayEcho_controller s with heq | ⟨hsends, heq⟩
    · exact heq ▸ hn
    · exact NodeState.takesPart_of_strips (NodeState.strips_of_sendsOwn hsends)
    · exact hset (heq ▸ hn)
    · exact hset hsends
  | restart => exact ⟨hconfig ▸ hpos, Nat.zero_le _, fun _ => rfl, fun hn => absurd hn Bool.false_ne_true⟩
  | _ => exact ⟨hphase, htrim, hrun, hset⟩

/-- Settles O60: each move keeps the time sound, and a load finds the timebase at its reset values. -/
theorem timeStaysSound : Obligations.TimeStaysSound := by
  intro s t hasleep hrange hs h
  obtain ⟨rest, hmoves | hreset⟩ := step_cases h
  · exact hmoves.keep (P := fun u => u.configInRange ∧ u.timeSound) Move.keeps_time (fun _ _ _ => id) ⟨hrange, hs⟩
  · obtain ⟨hphase, htrim, hrun, hset⟩ := hs
    cases hreset with
    | fullReset =>
      have hpos : 0 < NodeConfig.blank.stepLength := by decide
      exact ⟨blank_inRange, timeSound_of_silent hpos (Nat.zero_le _) rfl⟩
    | release => exact ⟨hrange, hphase, htrim, hrun, hset⟩
    | unconfigured => exact ⟨hrange, timeSound_of_silent hphase htrim rfl⟩
    | listen hl record c hc =>
      have hloaded := loadRecord_inRange hc
      obtain ⟨htime, -⟩ := asleepAtReset_of_loading hasleep hl
      have hpos : 0 < c.stepLength := lt_of_lt_of_le (by decide) (NodeConfig.bounds_of_inRange hloaded).1
      refine ⟨hloaded, ?_, ?_, fun _ => rfl, fun hn => absurd hn Bool.false_ne_true⟩
      · show s.time.phase < c.stepLength
        rw [htime]
        exact hpos
      · show s.time.trimUsed ≤ c.trimBound
        rw [htime]
        exact Nat.zero_le _

/-! ### The node controller (R152, R160, R163, R166) -/

/-- The controller's bounds and its ages' window, for a configuration in range. -/
def State.controllerSound (s : State) : Prop := s.configInRange ∧ s.controller.bounded ∧ s.agesInWindow

theorem Controller.reset_bounded {c : Controller} (hlisten : c.listenCount ≤ 255) (hgrace : c.grace ≤ 16)
    (h : { c with state := .loading, listenCount := 0, grace := 0 } = Controller.reset) : c.bounded := by
  have hmiss := congrArg Controller.missCount h
  have hages := congrArg Controller.strayAges h
  have hattempt := congrArg Controller.joinAttempt h
  have hjoins := congrArg Controller.joinSequences h
  have hwaiting := congrArg Controller.joinWaiting h
  simp only [Controller.reset] at hmiss hages hattempt hjoins hwaiting
  simp [Controller.bounded, *]

/-- The ages of a boundary lie one higher, and none had reached its limit before (R166). -/
theorem boundaryCounts_sound {s : State} (hdue : s.due.strayAges = false) (hs : s.controllerSound) :
    (s.withController s.controller.atBoundary).markDue.controllerSound := by
  obtain ⟨hrange, ⟨hlisten, hgrace, hmiss, hlen, hclash, hage, hattempt, hjoins⟩, hwindow⟩ := hs
  obtain ⟨-, -, -, hbeacon⟩ := NodeConfig.bounds_of_inRange hrange
  have hbelow : s.controller.state.strips = true → ∀ age ∈ s.controller.strayAges, age < 8 * s.config.beaconInterval :=
    fun hn age hage => (hwindow hn age hage).2 hdue
  have hages : ∀ age ∈ s.controller.atBoundary.strayAges,
      age ∈ s.controller.strayAges ∨ age ≤ 8 * s.config.beaconInterval := by
    intro age hmem
    dsimp only [Controller.atBoundary] at hmem
    split at hmem
    · rename_i hn
      obtain ⟨old, hold, rfl⟩ := List.mem_map.mp hmem
      exact .inr (hbelow hn old hold)
    · exact .inl hmem
  have hcount : s.controller.atBoundary.strayAges.length = s.controller.strayAges.length := by
    dsimp only [Controller.atBoundary]
    split
    · exact List.length_map _
    · rfl
  refine ⟨hrange, ⟨?_, ?_, hmiss, hcount.trans_le hlen, fun hn => hcount.trans_le (hclash hn), fun age hmem => ?_,
    hattempt, hjoins⟩, fun hn age hmem => ⟨?_, fun hleft => ?_⟩⟩
  · show (if s.controller.state = .listen then min 255 (s.controller.listenCount + 1) else _) ≤ 255
    split <;> omega
  · show (if s.controller.state.strips then s.controller.grace - 1 else s.controller.grace) ≤ 16
    split <;> omega
  · rcases hages age hmem with hold | hnew
    · exact hage age hold
    · omega
  · have hn : s.controller.state.strips = true := hn
    rcases hages age hmem with hold | hnew
    · exact (hwindow hn age hold).1
    · exact hnew
  · have hn : s.controller.state.strips = true := hn
    have hleft : (s.due.strayAges || s.controller.state.strips) = false := hleft
    rw [hn, Bool.or_true] at hleft
    exact Bool.noConfusion hleft

/-- Removing the ages that have reached their limit leaves those below it (R166). -/
theorem takeStrayAges_sound {s : State} (hs : s.controllerSound) : s.takeStrayAges.controllerSound := by
  unfold State.takeStrayAges
  dsimp only
  obtain ⟨hrange, ⟨hlisten, hgrace, hmiss, hlen, hclash, hage, hattempt, hjoins⟩, hwindow⟩ := hs
  split
  case isFalse => exact ⟨hrange, ⟨hlisten, hgrace, hmiss, hlen, hclash, hage, hattempt, hjoins⟩, hwindow⟩
  case isTrue =>
    split
    case isFalse hn =>
      exact ⟨hrange, ⟨hlisten, hgrace, hmiss, hlen, hclash, hage, hattempt, hjoins⟩, fun h => absurd h hn⟩
    case isTrue =>
      have hfew := List.length_filter_le (fun age => decide (age < 8 * s.config.beaconInterval)) s.controller.strayAges
      refine ⟨hrange, ⟨hlisten, hgrace, hmiss, hfew.trans hlen, fun hn => hfew.trans (hclash hn), fun age hmem => ?_,
        hattempt, hjoins⟩, fun _ age hmem => ?_⟩
      · exact hage age (List.mem_filter.mp hmem).1
      · have hbelow : age < 8 * s.config.beaconInterval := of_decide_eq_true (List.mem_filter.mp hmem).2
        exact ⟨hbelow.le, fun _ => hbelow⟩

/-- A third age takes the node to CLASH, so the list holds two in every other state (R167). -/
theorem strayEcho_sound {s : State} (hs : s.controllerSound) : s.strayEcho.controllerSound := by
  obtain ⟨hrange, hbounded, hwindow⟩ := hs
  obtain ⟨-, -, hbeacon, -⟩ := NodeConfig.bounds_of_inRange hrange
  have hconfig : s.strayEcho.config = s.config := by simp
  have hdue : s.strayEcho.due = s.due := by simp
  unfold State.controllerSound State.agesInWindow
  rw [State.configInRange, hconfig, hdue]
  rcases strayEcho_controller s with heq | ⟨hsends, heq⟩ <;> rw [heq]
  · exact ⟨hrange, hbounded, hwindow⟩
  · obtain ⟨hlisten, hgrace, hmiss, hlen, hclash, hage, hattempt, hjoins⟩ := hbounded
    have htwo := hclash (NodeState.not_clash_of_sendsOwn hsends)
    refine ⟨hrange, ⟨hlisten, hgrace, hmiss, by simpa using Nat.lt_succ_of_le htwo, fun hn => ?_, fun age hmem => ?_,
      hattempt, hjoins⟩,
      fun _ age hmem => ?_⟩
    · have hfew : s.controller.strayAges.length < 2 := by
        by_contra hmany
        exact hn (if_neg hmany)
      simpa using hfew
    all_goals rcases List.mem_append.mp hmem with hold | hnew
    · exact hage age hold
    · rw [List.mem_singleton.mp hnew]
      exact Nat.zero_le _
    · exact hwindow (NodeState.strips_of_sendsOwn hsends) age hold
    · rw [List.mem_singleton.mp hnew]
      exact ⟨Nat.zero_le _, fun _ => by omega⟩

theorem Move.keeps_controller {s t : State} (h : Move s t) (hs : s.controllerSound) : t.controllerSound := by
  have hconfig := h.config
  cases h with
  | controller c hages hb hstate =>
    obtain ⟨hrange, hbounded, hwindow⟩ := hs
    exact ⟨hrange, hb hbounded, fun hn age hage =>
      hwindow (strips_of_mayEnter hstate hn) age (hages ▸ hage)⟩
  | due d h =>
    obtain ⟨hrange, hbounded, hwindow⟩ := hs
    exact ⟨hrange, hbounded, fun hn age hage => h ▸ hwindow hn age hage⟩
  | boundaryCounts h => exact boundaryCounts_sound h hs
  | strayAges => exact takeStrayAges_sound hs
  | strayEcho => exact strayEcho_sound hs
  | restart =>
    obtain ⟨hrange, -, -⟩ := hs
    obtain ⟨-, hcircuit, -⟩ := NodeConfig.bounds_of_inRange hrange
    refine ⟨by rw [State.configInRange, hconfig]; exact hrange, Controller.reset_bounded ?_ hcircuit rfl,
      fun _ _ hage => absurd hage List.not_mem_nil⟩
    show (if s.due.listenEnd then 1 else 0) ≤ 255
    split <;> decide
  | _ => exact hs

/-- While the record is read, the controller is at its values after full reset (R154). -/
theorem controller_of_loading {s : State} (h : s.asleepAtReset) (hl : s.loader ≠ .idle) :
    s.controller = Controller.reset := by
  obtain ⟨-, -, -, -, -, -, -, -, -, hcontroller, -⟩ := asleepAtReset_of_loading h hl
  rw [hcontroller, h.2.1 (.inr hl)]
  rfl

/-- Settles O58: each move keeps the bounds, and a load finds the controller at its reset values. -/
theorem controllerBoundsAreKept : Obligations.ControllerBoundsAreKept := by
  intro s t hasleep hrange hbounded hwindow h
  obtain ⟨rest, hmoves | hreset⟩ := step_cases h
  · exact (hmoves.keep Move.keeps_controller (fun _ _ _ => id) ⟨hrange, hbounded, hwindow⟩).2
  · cases hreset with
    | fullReset =>
      exact ⟨Controller.reset_bounded (Nat.zero_le _) (Nat.zero_le _) rfl, fun hn => absurd hn Bool.false_ne_true⟩
    | release => exact ⟨hbounded, hwindow⟩
    | unconfigured hl =>
      have hreset := controller_of_loading hasleep hl
      refine ⟨Controller.reset_bounded ?_ ?_ ?_, fun hn => absurd hn Bool.false_ne_true⟩
      all_goals dsimp only [State.enterUnconfigured]; rw [hreset]
      all_goals simp [Controller.reset]
    | listen hl record c hc =>
      have hreset := controller_of_loading hasleep hl
      obtain ⟨-, hcircuit, -⟩ := NodeConfig.bounds_of_inRange (loadRecord_inRange hc)
      refine ⟨Controller.reset_bounded (Nat.zero_le _) hcircuit ?_, fun _ age hage => ?_⟩
      · dsimp only [State.enterListen]
        rw [hreset]
        rfl
      · dsimp only [State.enterListen] at hage
        rw [hreset] at hage
        exact absurd hage List.not_mem_nil

/-! ### Every command answers (R154, R156) -/

/-- What every row of a message leaves as it is, whatever takes the message. -/
theorem endReception_frame {row : Instr} {take : Message → State → State} {β : Type} {p : State → β}
    (hready : ∀ s : State, p (s.settleBefore row) = p s) (hempty : ∀ s : State, p s.emptyReceive = p s)
    (hcount : ∀ (s : State) k, p (s.count k) = p s) (htake : ∀ m s, p (take m s) = p s) (s : State) :
    p (s.endReception row take) = p s := by
  unfold State.endReception
  dsimp only
  repeat' split
  · exact hready s
  · rw [hcount, hempty, hready]
  · rw [hcount, hempty, hready]
  · rw [htake, hempty, hready]
  · exact hready s

/-- What no message changes: the queue, the reset line, the loader, the record, the trigger unit and the tick count. -/
theorem messageRow_frame {row : Instr} (hrow : rowEndsReception row = true) (s : State) :
    ∃ t, exec row s = .next t ∧ t.pending = s.pending ∧ t.resetHeld = s.resetHeld ∧ t.loader = s.loader ∧
      t.config = s.config ∧ t.trigger = s.trigger ∧ t.now = s.now := by
  obtain ⟨take, hexec, htake⟩ := exec_of_rowEndsReception hrow
  have hkept : ∀ m u, (take m u).pending = u.pending ∧ (take m u).resetHeld = u.resetHeld ∧
      (take m u).loader = u.loader ∧ (take m u).config = u.config ∧ (take m u).trigger = u.trigger ∧
      (take m u).now = u.now := by
    intro m u
    rcases htake with ⟨content, hcontent, rfl⟩ | ⟨-, rfl⟩ | ⟨-, rfl⟩
    · exact acceptKnown_frame hcontent m u
    · simp
    · exact takeStripped_frame m u
  refine ⟨_, hexec s, ?_, ?_, ?_, ?_, ?_, ?_⟩
  · exact endReception_frame (p := State.pending) (by simp) (by simp) (by simp) (fun m u => by simp [hkept]) s
  · exact endReception_frame (p := State.resetHeld) (by simp) (by simp) (by simp) (fun m u => by simp [hkept]) s
  · exact endReception_frame (p := State.loader) (by simp) (by simp) (by simp) (fun m u => by simp [hkept]) s
  · exact endReception_frame (p := State.config) (by simp) (by simp) (by simp) (fun m u => by simp [hkept]) s
  · exact endReception_frame (p := State.trigger) (by simp) (by simp) (by simp) (fun m u => by simp [hkept]) s
  · exact endReception_frame (p := State.now) (by simp) (by simp) (by simp) (fun m u => by simp [hkept]) s

theorem messageRow_outside {row : Instr} (hrow : rowEndsReception row = true) (s : State) :
    ∃ t, exec row s = .next t ∧ t.pending = s.pending ∧ t.config = s.config ∧ t.resetHeld = s.resetHeld ∧
      (t.loader = .idle ↔ s.loader = .idle) := by
  obtain ⟨t, ht, hpending, hheld, hloader, hconfig, -⟩ := messageRow_frame hrow s
  exact ⟨t, ht, hpending, hconfig, hheld, by rw [hloader]⟩

/-- The link and a running timebase go on (R47, R118, R136). -/
def State.goesOnAs (s t : State) : Prop :=
  s.ring.goesOnAs t.ring ∧ (s.time.running = true → t.time.running = true)

theorem State.goesOnAs_refl (s : State) : s.goesOnAs s := ⟨⟨rfl, rfl, rfl, List.prefix_rfl⟩, id⟩

theorem State.goesOnAs_trans {s t u : State} (hst : s.goesOnAs t) (htu : t.goesOnAs u) : s.goesOnAs u := by
  obtain ⟨⟨hmode, hrepeating, htransmitter, hinsertion⟩, hrun⟩ := hst
  obtain ⟨⟨hmode', hrepeating', htransmitter', hinsertion'⟩, hrun'⟩ := htu
  exact ⟨⟨hmode'.trans hmode, hrepeating'.trans hrepeating, htransmitter'.trans htransmitter,
    hinsertion.trans hinsertion'⟩, fun h => hrun' (hrun h)⟩

theorem Move.goesOn {s t : State} (h : Move s t) : s.goesOnAs t := by
  cases h with
  | ring r hlink _ => exact ⟨hlink, id⟩
  | time x h => exact ⟨⟨rfl, rfl, rfl, List.prefix_rfl⟩, h.2.1⟩
  | strayAges => simp [State.goesOnAs, RingPort.goesOnAs]
  | strayEcho => simp [State.goesOnAs, RingPort.goesOnAs]
  | restart => exact ⟨⟨rfl, rfl, rfl, List.prefix_rfl⟩, fun _ => rfl⟩
  | _ => exact s.goesOnAs_refl

/-- Settles O13: the fields outside the blocks by their frame, the link and the timebase by the moves of the END. -/
theorem messageRowsFrame : Obligations.MessageRowsFrame := by
  intro row s t hrow h
  obtain ⟨u, hu, -, hheld, hloader, hconfig, htrigger, hnow⟩ := messageRow_frame hrow s
  cases hu.symm.trans h
  obtain ⟨⟨hmode, hrepeating, htransmitter, hinsertion⟩, hrun⟩ :=
    (messageRow_moves hrow h).keep (P := fun u => s.goesOnAs u)
      (fun hmove hs => State.goesOnAs_trans hs hmove.goesOn) s.goesOnAs_refl
  exact ⟨hconfig, htrigger, hloader, hheld, hnow, hmode, hrepeating, htransmitter, hinsertion, hrun⟩

/-- No command but those of reset and load changes the record, the reset line, or whether the loader is idle. -/
theorem exec_outside {c : Instr} (hc : resetsOrLoads c = false) (s : State) :
    ∃ t, exec c s = .next t ∧ t.pending = s.pending ∧ t.config = s.config ∧ t.resetHeld = s.resetHeld ∧
      (t.loader = .idle ↔ s.loader = .idle) := by
  cases c
  case fullReset | resetRelease | loadComplete => exact Bool.noConfusion hc
  case linkModeSwitch | passThroughRepeatingResumed | receptionOverlong =>
    refine ⟨_, rfl, ?_⟩
    split
    all_goals simp
  case receptionStart | receptionAborted =>
    refine ⟨_, rfl, ?_⟩
    repeat' split
    all_goals simp
  case ordinaryAdvance =>
    refine ⟨_, rfl, ?_⟩
    dsimp only
    split
    all_goals simp [passTick_loader_idle, settleClocks_loader_idle]
  case triggerSample =>
    refine ⟨_, rfl, ?_⟩
    dsimp only
    split
    all_goals simp [sampleLines_loader_idle]
  case grant | transmissionEnd | placeWaitingEntries | placeWaitingJoin | tombstoneFreed | passComplete | cycleStart |
      publicationTimeout | watchExpiry | joinExpiry | listenEnd | peerSilent | peerGone | beaconDue |
      strayEchoAgeExpiry =>
    exact ⟨_, rfl, by simp⟩
  all_goals exact messageRow_outside rfl s

/-- A command of reset or load answers, and leaves the queue as it is. -/
theorem resetRow_answers {c : Instr} (hc : resetsOrLoads c = true) (s : State) :
    ∃ t, exec c s = .next t ∧ t.pending = s.pending := by
  cases c
  case fullReset => exact ⟨_, rfl, rfl⟩
  case resetRelease | loadComplete =>
    refine ⟨_, rfl, ?_⟩
    repeat' split
    all_goals rfl
  all_goals exact absurd hc Bool.false_ne_true

/-- A release of the reset leaves the record as it is. -/
theorem resetRelease_config {s t : State} (h : exec .resetRelease s = .next t) : t.config = s.config := by
  cases h
  split
  all_goals rfl

/-- Settles O3, from what the commands but those of reset and load leave, and the answers of these. -/
theorem everyCommandAnswers : Obligations.EveryCommandAnswers := by
  refine ⟨fun c s => ?answers, fun c s t h hreset hload => ?frame⟩
  case answers =>
    cases hc : resetsOrLoads c with
    | true => exact resetRow_answers hc s
    | false =>
      obtain ⟨t, ht, hpending, -⟩ := exec_outside hc s
      exact ⟨t, ht, hpending⟩
  case frame =>
    cases hc : resetsOrLoads c with
    | true =>
      cases c
      case fullReset => exact absurd rfl hreset
      case loadComplete record => exact absurd rfl (hload record)
      case resetRelease => exact ⟨resetRelease_config h, fun hne => absurd rfl hne⟩
      all_goals exact Bool.noConfusion hc
    | false =>
      obtain ⟨u, hu, -, hconfig, hheld, hloader⟩ := exec_outside hc s
      cases hu.symm.trans h
      exact ⟨hconfig, fun _ => ⟨hheld, hloader⟩⟩

/-! ### The node asleep (R154, R156) -/

theorem Move.keeps_takesPart {s t : State} (h : Move s t) (hs : s.controller.state.takesPart = true) :
    t.controller.state.takesPart = true := by
  cases h with
  | controller c _ _ hstate => exact (takesPart_of_mayEnter hstate).trans hs
  | strayAges =>
    unfold State.takeStrayAges State.expireStrayAges
    dsimp only
    repeat' split
    all_goals exact hs
  | strayEcho =>
    rcases strayEcho_controller s with heq | ⟨-, heq⟩ <;> rw [heq]
    · exact hs
    · dsimp only
      split
      · exact hs
      · rfl
  | restart => rfl
  | _ => exact hs

/-- A node that takes part, with no reset and no load, is at no reset values that it has to keep. -/
theorem asleepAtReset_of_awake {s : State} (hheld : s.resetHeld = false) (hloader : s.loader = .idle)
    (hn : s.controller.state.takesPart = true) : s.asleepAtReset := by
  refine ⟨fun _ => hloader, fun h => ?_, fun h => ?_⟩
  · rcases h with h | h
    · exact absurd (hheld.symm.trans h) Bool.false_ne_true
    · exact absurd hloader h
  · exact Bool.noConfusion (hn.symm.trans h)

theorem blocksAtReset_fullReset (s : State) : s.fullReset.blocksAtReset :=
  ⟨rfl, rfl, rfl, rfl, rfl, rfl, rfl, rfl, rfl, rfl, rfl, rfl, rfl⟩

theorem asleepAtReset_fullReset (s : State) : s.fullReset.asleepAtReset :=
  ⟨fun _ => rfl, fun _ => rfl, fun _ => blocksAtReset_fullReset s⟩

/-- What the blocks at their reset values have no event for: the clocks stand still, the link is in PASS-THROUGH and
nothing is due. -/
structure State.still (s : State) : Prop where
  quiet : s.quiet
  mode : s.ring.mode = .passThrough
  receive : s.ring.receive = none
  transmitter : s.ring.transmitter = .idle
  time : s.time.running = false
  trigger : s.trigger.running = false
  pulse : s.pulse.running = false
  pass : s.composer.pass = none

theorem still_of_blocksAtReset {s : State} (h : s.blocksAtReset) : s.still := by
  obtain ⟨htime, -, hcomposer, hpulse, htrigger, -, -, hring, -, -, -, -, hdue⟩ := h
  exact ⟨hdue, by rw [hring]; rfl, by rw [hring]; rfl, by rw [hring]; rfl, by rw [htime]; rfl, by rw [htrigger]; rfl,
    by rw [hpulse]; rfl, by rw [hcomposer]; rfl⟩

/-- In PASS-THROUGH there is no message whose END a row could report (R116, R118). -/
theorem messageRow_of_still {row : Instr} (hrow : rowEndsReception row = true) {s : State} (h : s.still) :
    exec row s = .next s := by
  obtain ⟨take, hexec, -⟩ := exec_of_rowEndsReception hrow
  have hdone : s.doneBefore row := doneBefore_of_momentDone (momentDone_of_quiet h.quiet) row
  have hreceived : s.received = none := by simp [State.received, h.mode]
  rw [hexec, endReception_of_done s row take hdone, hreceived]

/-- A still node takes no command but those of reset and load; at an upstream IDLE its link repeats (R135). -/
theorem exec_of_still {c : Instr} (hc : resetsOrLoads c = false) {s : State} (hn : s.asleep) (h : s.still) :
    exec c s = .next s ∨ exec c s = .next (s.withRing { s.ring with repeating := true }) := by
  have hdue : s.due = .none := h.quiet
  have hsettle : s.settle = s := settle_of_quiet s h.quiet
  have hmoment : s.settleMoment = s := settleMoment_of_done s (momentDone_of_quiet h.quiet)
  have htombstones : s.takeTombstones = s := by simp [State.takeTombstones, hdue, Due.none]
  cases c
  case fullReset | resetRelease | loadComplete => exact Bool.noConfusion hc
  case passThroughRepeatingResumed => exact .inr (congrArg _ (if_pos h.mode))
  all_goals refine .inl ?_
  case linkModeSwitch =>
    have hawake : ¬ s.controller.state.takesPart = true := by
      rw [hn]
      exact Bool.false_ne_true
    exact congrArg _ (if_neg fun hturns => hawake hturns.2)
  case receptionStart => simp [exec, execReceptionStart, h.mode]
  case receptionAborted => simp [exec, execReceptionAborted, State.receiving, h.receive]
  case receptionOverlong => simp [exec, execReceptionOverlong, State.receiving, h.receive]
  case ordinaryAdvance => simp [exec, execOrdinaryAdvance, hmoment, h.time]
  case triggerSample => simp [exec, execTriggerSample, hsettle, State.sampleDue, h.trigger]
  case grant => simp [exec, execGrant, hsettle, State.grant, State.linkFree, h.mode]
  case transmissionEnd => simp [exec, execTransmissionEnd, hsettle, State.endTransmission, h.transmitter]
  case cycleStart => simp [exec, execCycleStart, State.takeCycleStart, h.pulse]
  case passComplete => simp [exec, execPassComplete, htombstones, State.completePass, h.pass]
  case peerGone => simp [exec, execPeerGone, htombstones, State.takePeerGone, hdue, Due.none]
  case beaconDue => simp [exec, execBeaconDue, htombstones, State.takeBeacon, hdue, Due.none]
  case placeWaitingEntries => simp [exec, execPlaceWaitingEntries, State.takeEntries, hdue, Due.none]
  case placeWaitingJoin => simp [exec, execPlaceWaitingJoin, State.takeJoinPlace, hdue, Due.none]
  case tombstoneFreed => simp [exec, execTombstoneFreed, htombstones]
  case publicationTimeout => simp [exec, execPublicationTimeout, State.takePublications, hdue, Due.none]
  case watchExpiry => simp [exec, execWatchExpiry, State.takeWatch, hdue, Due.none]
  case joinExpiry => simp [exec, execJoinExpiry, State.takeJoinExpiry, hdue, Due.none]
  case listenEnd => simp [exec, execListenEnd, State.takeListenEnd, hdue, Due.none]
  case peerSilent => simp [exec, execPeerSilent, State.takePeerSilent, hdue, Due.none]
  case strayEchoAgeExpiry => simp [exec, execStrayEchoAgeExpiry, State.takeStrayAges, hdue, Due.none]
  all_goals exact messageRow_of_still rfl h

/-- A tick of a still node counts itself, and an SCK cycle of a load (R192). -/
theorem tick_of_still {s : State} (h : s.still) : s.tick = { s with loader := s.loader.tick, now := s.now + 1 } := by
  have hclocks : s.settleClocks = s := by
    simp [State.settleClocks, State.clockMoments, State.takeCycleStart, State.passDeadline, State.takeDueSample,
      State.sampleDue, h.pulse, h.pass, h.trigger]
  have hcounts : s.tickCounts = { s with loader := s.loader.tick, now := s.now + 1 } := by
    simp [State.tickCounts, State.tickPulse, State.tickTrigger, State.tickPass, h.pulse, h.pass, h.trigger]
  rw [State.tick, settle_of_quiet s h.quiet, hclocks, State.passTick, hcounts]
  simp [State.tickTime, h.time]

/-- A reset or a load leaves a node asleep at its reset values, or wakes it in LISTEN. -/
theorem ResetOrLoad.keeps_asleepAtReset {s t : State} (h : ResetOrLoad s t) (hs : s.asleepAtReset) :
    t.asleepAtReset := by
  obtain ⟨hheld, hloading, hreset⟩ := hs
  cases h with
  | fullReset => exact asleepAtReset_fullReset s
  | release hr =>
    have hstate := hloading (.inl hr)
    exact ⟨fun h' => absurd h' Bool.false_ne_true, fun _ => hstate, hreset⟩
  | unconfigured hl =>
    obtain ⟨htime, htable, hcomposer, hpulse, htrigger, horigins, hpublications, hring, hroster, hcontroller, hrest⟩ :=
      asleepAtReset_of_loading ⟨hheld, hloading, hreset⟩ hl
    refine ⟨fun _ => rfl, fun h' => ?_, fun _ => ⟨htime, htable, hcomposer, hpulse, htrigger, horigins, hpublications,
      hring, hroster, ?_, hrest⟩⟩
    · rcases h' with h' | h'
      · exact absurd (hheld h') hl
      · exact absurd rfl h'
    · dsimp only [State.enterUnconfigured]
      rw [hcontroller]
  | listen hl record c hc =>
    refine asleepAtReset_of_awake ?_ rfl rfl
    exact Bool.eq_false_iff.mpr fun h' => hl (hheld h')

/-- A node that takes part has no reset held and no load going on. -/
theorem awake_of_asleepAtReset {s : State} (hs : s.asleepAtReset) (hn : s.controller.state.takesPart = true) :
    s.resetHeld = false ∧ s.loader = .idle := by
  obtain ⟨-, hloading, -⟩ := hs
  have hstate : s.controller.state ≠ .loading := by
    intro h
    rw [h] at hn
    exact Bool.noConfusion hn
  refine ⟨Bool.eq_false_iff.mpr fun h => hstate (hloading (.inl h)), ?_⟩
  by_contra h
  exact hstate (hloading (.inr h))

theorem asleepAtReset_exec {c : Instr} {s t : State} (hs : s.asleepAtReset) (h : exec c s = .next t) :
    t.asleepAtReset := by
  cases hc : resetsOrLoads c with
  | true =>
    rcases resetRow_cases hc h with rfl | hload
    · exact hs
    · exact hload.keeps_asleepAtReset hs
  | false =>
    cases hn : s.controller.state.takesPart with
    | true =>
      obtain ⟨hheld, hloader⟩ := awake_of_asleepAtReset hs hn
      obtain ⟨u, hu, -, -, hheld', hloader'⟩ := exec_outside hc s
      cases hu.symm.trans h
      refine asleepAtReset_of_awake (hheld'.trans hheld) (hloader'.mpr hloader) ?_
      exact (exec_moves hc h).keep (P := fun u => u.controller.state.takesPart = true) Move.keeps_takesPart
        (fun _ _ _ => id) hn
    | false =>
      obtain ⟨hheld, hloading, hreset⟩ := hs
      have hblocks := hreset hn
      rcases exec_of_still hc hn (still_of_blocksAtReset hblocks) with heq | heq
      all_goals cases heq.symm.trans h
      · exact ⟨hheld, hloading, hreset⟩
      · obtain ⟨htime, htable, hcomposer, hpulse, htrigger, horigins, hpublications, hring, hrest⟩ := hblocks
        refine ⟨hheld, hloading, fun _ =>
          ⟨htime, htable, hcomposer, hpulse, htrigger, horigins, hpublications, ?_, hrest⟩⟩
        rw [State.withRing_ring, hring]

theorem asleepAtReset_tick {s : State} (hs : s.asleepAtReset) : s.tick.asleepAtReset := by
  cases hn : s.controller.state.takesPart with
  | true =>
    obtain ⟨hheld, hloader⟩ := awake_of_asleepAtReset hs hn
    refine asleepAtReset_of_awake (by simpa using hheld) ((tick_loader_idle s).mpr hloader) ?_
    exact (tick_moves s).keep (P := fun u => u.controller.state.takesPart = true) Move.keeps_takesPart hn
  | false =>
    obtain ⟨hheld, hloading, hreset⟩ := hs
    rw [tick_of_still (still_of_blocksAtReset (hreset hn))]
    refine ⟨fun h => (Loader.tick_idle s.loader).mpr (hheld h), fun h => hloading (h.imp id fun hne => ?_), hreset⟩
    exact fun hidle => hne ((Loader.tick_idle s.loader).mpr hidle)

/-- Settles O59: a node asleep takes no event but a reset or a load, and no event sends a node that takes part to
sleep but a reset. -/
theorem asleepStaysAtReset : Obligations.AsleepStaysAtReset := by
  intro s t hs h
  unfold step at h
  split at h
  case h_1 =>
    cases h
    exact asleepAtReset_tick hs
  case h_2 c rest _ => exact asleepAtReset_exec (s := { s with pending := rest }) hs h

end Sys2Proof.Machine
end

section
/-! PROOFS. The queue, reset and load, and the events of a reception (R114 to R118, R135, R154 to R157, R192). -/

namespace Sys2Proof.Machine

/-! ### The queue -/

/-- Settles O1, from the case of `step` in which a command waits. -/
theorem stepTakesTheFrontCommand : Obligations.StepTakesTheFrontCommand := by
  intro s c rest hpending
  unfold step
  rw [hpending]

/-! ### Reset (R77, R154, R171) -/

/-- While HALTED every output is low (R69). -/
theorem PulseUnit.output_of_halted {p : PulseUnit} (h : p.running = false) (c : NodeConfig) (i : Nat) :
    p.output c i = false := by
  simp [PulseUnit.output, h]

/-- Settles O4, from the values of the reset state and the invariants of a node whose tables are empty. -/
theorem resetState : Obligations.ResetState := by
  have hblocks : State.reset.blocksAtReset := ⟨rfl, rfl, rfl, rfl, rfl, rfl, rfl, rfl, rfl, rfl, rfl, rfl, rfl⟩
  have hring : State.reset.ring.bounded :=
    ⟨Nat.zero_le 4, Nat.zero_le 8, Nat.zero_le 16, List.nodup_nil, Nat.zero_le 16, Nat.zero_le 50⟩
  refine ⟨hblocks, rfl, rfl, rfl, rfl, fun i => PulseUnit.output_of_halted rfl _ i, ⟨rfl, rfl, rfl, rfl, rfl, rfl⟩, hring,
    publicationsBounded_nil, keysUnique_empty, rosterOrdered_of_nil rfl, ?_, fun hn => absurd hn Bool.false_ne_true,
    ⟨fun _ => rfl, fun _ => rfl, fun _ => hblocks⟩, blank_inRange, ?_⟩
  · exact Controller.reset_bounded (Nat.zero_le _) (Nat.zero_le _) rfl
  · exact timeSound_of_silent (by decide) (Nat.zero_le _) rfl

/-- Out of STORE-AND-FORWARD the link waits for an IDLE; in PASS-THROUGH it goes on as it was (R135). -/
theorem fullReset_repeating (s : State) :
    (s.ring.mode = .storeAndForward → s.fullReset.ring.repeating = false) ∧
      (s.ring.mode = .passThrough → s.fullReset.ring.repeating = s.ring.repeating) := by
  refine ⟨fun h => ?_, fun h => ?_⟩
  all_goals simp [State.fullReset, h]

/-- What the downstream link carries in PASS-THROUGH (R118). -/
theorem downstream_of_passThrough {s : State} (h : s.ring.mode = .passThrough) :
    s.downstream = if s.ring.repeating then .repeats else .idle := by
  simp [State.downstream, h]

/-- Settles O5, from the state of a full reset and the two cases of its release. -/
theorem resetCommands : Obligations.ResetCommands := by
  intro s
  obtain ⟨hforward, hpass⟩ := fullReset_repeating s
  have hdown : s.fullReset.downstream = if s.fullReset.ring.repeating then .repeats else .idle :=
    downstream_of_passThrough rfl
  refine ⟨⟨_, rfl, blocksAtReset_fullReset s, rfl, rfl, rfl, rfl, rfl, rfl, rfl, rfl, rfl, fun h => ?_, fun h => ?_,
    fun i => PulseUnit.output_of_halted rfl _ i, rfl⟩, fun h => ?_, fun h => ?_⟩
  · exact ⟨hforward h, by rw [hdown, hforward h]; rfl⟩
  · exact ⟨hpass h, by rw [hdown, hpass h]⟩
  · exact congrArg _ (if_pos h)
  · exact congrArg _ (if_neg (by simp [h]))

/-! ### Load (R155, R156, R157, R192) -/

/-- The read command is 03h, so that among the 24 bits of command and address the seventh and the eighth are 1 (R192). -/
theorem readCommandBits_high : ∀ n < 24, (readCommandBits.getLsbD (23 - n) = true ↔ n = 6 ∨ n = 7) := by decide

theorem sdoPin_iff {s : State} {n : Nat} (h : s.loader = .reading n) : s.sdoPin = true ↔ n = 6 ∨ n = 7 := by
  unfold State.sdoPin
  rw [h]
  dsimp only
  split
  · exact readCommandBits_high n ‹_›
  · simp only [Bool.false_eq_true, false_iff]
    omega

/-- Settles O7, by the loader's state and the checks of the record. -/
theorem loadCompleteEndsLoading : Obligations.LoadCompleteEndsLoading := by
  intro s record
  refine ⟨fun h => ?idle, fun n h hfew => ?early, fun n h hdone => ⟨fun hnone => ?refused, fun c hc => ?loaded⟩, ?tick,
    fun second => ⟨fun h => ?high, fun n h => ?low⟩⟩
  case idle => simp [exec, execLoadComplete, h]
  case early => simp [exec, execLoadComplete, h, readCycles, hfew]
  case refused =>
    simp only [exec, execLoadComplete, h, readCycles, Nat.not_lt.mpr hdone, if_false, hnone]
    rfl
  case loaded =>
    simp only [exec, execLoadComplete, h, readCycles, Nat.not_lt.mpr hdone, if_false, hc]
    rfl
  case tick =>
    cases s.loader with
    | idle => rfl
    | reading n =>
      simp only [Loader.tick, readCycles, Loader.reading.injEq]
      split <;> omega
  case high => simp [State.scsPin, State.sckPin, State.sdoPin, h]
  case low =>
    refine ⟨by simp [State.scsPin, h], ?_, sdoPin_iff h⟩
    have hclock : s.sckPin second = (decide (n < 2744) && second) := by
      rw [State.sckPin, h]
      rfl
    rw [hclock, Bool.and_eq_true, decide_eq_true_eq]

/-! ### Receptions (R114, R116, R118, R135) -/

theorem receiving_of_holds {s : State} {b : List Byte} (h : s.holds b) : s.receiving = true := by
  simp [State.receiving, h.1, h.2]

theorem not_receiving_of_passThrough {s : State} (h : s.ring.mode = .passThrough) : s.receiving = false := by
  simp [State.receiving, h]

/-- Without a reception there is nothing to abort (log 3). -/
theorem abort_of_not_receiving {s : State} (h : s.receiving = false) :
    (∀ symbol, exec (.receptionAborted symbol) s = .next s) ∧ exec .receptionOverlong s = .next s := by
  simp [exec, execReceptionAborted, execReceptionOverlong, h]

theorem beginReception_of_le {bytes : List Byte} (h : bytes.length ≤ 50) (s : State) :
    s.beginReception bytes = { s with ring := { s.ring with receive := some bytes } } := by
  unfold State.beginReception
  rw [List.take_of_length_le h]
  rfl

/-- Settles O8, by the mode of the link and what stands in the receive buffer. -/
theorem receptionEvents : Obligations.ReceptionEvents := by
  intro s bytes hlen
  refine ⟨fun hmode hempty => ?opens, fun b hb => ⟨fun symbol hsymbol => ?aborted, ?restarted, ?overlapped,
    fun hfull => ?overlong, fun hroom => ?within⟩, fun hmode => ?passThrough, fun hmode => ?storeAndForward,
    fun hmode => downstream_of_passThrough hmode, fun hmode => ?carries⟩
  case opens =>
    refine ⟨?_, abort_of_not_receiving (by simp [State.receiving, hempty])⟩
    simp only [exec, execReceptionStart, hmode, hempty, beginReception_of_le hlen]
  case aborted =>
    rcases hsymbol with rfl | rfl
    all_goals
      simp only [exec, execReceptionAborted, receiving_of_holds hb, if_true]
      rfl
  case restarted =>
    simp only [exec, execReceptionAborted, receiving_of_holds hb, if_true, beginReception_of_le hlen]
    rfl
  case overlapped =>
    have hexec : exec (.receptionStart bytes) s = .next ((s.count .malformed).beginReception bytes) := by
      simp only [exec, execReceptionStart, hb.1, hb.2]
    rw [hexec, beginReception_of_le hlen]
    rfl
  case overlong =>
    simp only [exec, execReceptionOverlong, receiving_of_holds hb, hb.2, Option.getD_some, hfull, decide_true,
      Bool.and_true, if_true]
    rfl
  case within =>
    simp [exec, execReceptionOverlong, hb.2, hroom.ne]
  case passThrough =>
    obtain ⟨haborted, hoverlong⟩ := abort_of_not_receiving (not_receiving_of_passThrough hmode)
    refine ⟨by simp [exec, execReceptionStart, hmode], hoverlong, haborted, congrArg _ (if_pos hmode), fun hn => ?_,
      fun hn => ?_⟩
    · exact congrArg _ (if_pos ⟨hmode, hn⟩)
    · exact congrArg _ (if_neg (by simp [hn]))
  case storeAndForward => simp [exec, execLinkModeSwitch, execPassThroughRepeatingResumed, hmode]
  case carries =>
    refine ⟨fun h => ?_, fun sent h => ?_, fun kind sequence sent h => ?_⟩
    all_goals simp [State.downstream, hmode, h]

end Sys2Proof.Machine
end

section
/-! PROOFS. The loader's checks of a record (R155), and the templates and the bindings that it holds valid (R86, R95,
R191). -/

namespace Sys2Proof.Machine

/-! ### Codes of two bits (R189, R191) -/

theorem Blend.ofCode_eq : ∀ c : BitVec 2,
    Blend.ofCode c =
      if c = 3#2 then none else some (if c = 0#2 then .replace else if c = 1#2 then .highest else .scale) := by
  decide

theorem LevelFunction.needsPeriod_ofCode : ∀ c : BitVec 2,
    ((LevelFunction.ofCode c).needsPeriod = true ↔ c = 1#2 ∨ c = 2#2) := by
  decide

theorem clockDivider_ofCode : ∀ c : BitVec 2,
    2 ^ c.toNat = if c = 0#2 then 1 else if c = 1#2 then 2 else if c = 2#2 then 4 else 8 := by
  decide

/-! ### The node-level checks (R155) -/

theorem recordRead_of_length {r : List Byte} (h : r.length = 340) : recordRead r = r := by
  refine List.ext_getElem (by simp [recordRead, h]) fun i hi hi' => ?_
  simp [recordRead, List.getElem?_eq_getElem hi']

/-- The ranges of R155, on the bytes of the record. Fields that fill their bytes have no range to leave. -/
def recordInRange (r : List Byte) : Prop :=
  1 ≤ (byteAt r 3).toNat ∧ (byteAt r 3).toNat ≤ 64 ∧ (word16At r 1).toNat + (byteAt r 3).toNat ≤ 16384 ∧
    500 ≤ (word16At r 4).toNat ∧ (word16At r 4).toNat ≤ 20000 ∧
    1 ≤ (byteAt r 8).toNat ∧ (byteAt r 8).toNat ≤ 16 ∧ 4 ≤ (byteAt r 9).toNat ∧ (byteAt r 9).toNat ≤ 64 ∧
    8 ≤ (byteAt r 10).toNat ∧ (word16At r 14).toNat ≤ 4095 ∧ (byteAt r 16).toNat ≤ 63 ∧
    1 ≤ (byteAt r 17).toNat ∧ (byteAt r 17).toNat ≤ 128

theorem configOfRecord_inRange (r : List Byte) : (configOfRecord r).inRange = true ↔ recordInRange r := by
  have hbyte : ∀ i, (byteAt r i).toNat < 256 := fun i => (byteAt r i).isLt
  have hword : ∀ i, (word16At r i).toNat < 65536 := fun i => (word16At r i).isLt
  have htolerance := hbyte 6
  have hallowance := hbyte 7
  have hlisten := hbyte 10
  have hhold := hword 11
  have hdivider : (configOfRecord r).clockDivider = 1 ∨ (configOfRecord r).clockDivider = 2 ∨
      (configOfRecord r).clockDivider = 4 ∨ (configOfRecord r).clockDivider = 8 := by
    dsimp only [configOfRecord]
    rw [clockDivider_ofCode]
    repeat' split
    all_goals simp
  rw [NodeConfig.inRange, decide_eq_true hdivider]
  simp only [Bool.and_eq_true, Bool.and_true, decide_eq_true_eq]
  dsimp only [configOfRecord, recordInRange]
  have hinterval : 50 * (byteAt r 17).toNat % 50 = 0 := Nat.mul_mod_right _ _
  omega

/-- A record is refused exactly when a check fails, and otherwise its values are loaded (R155). -/
theorem loadRecord_of_length {r : List Byte} (h : r.length = 340) :
    (loadRecord r = none ↔
      (∀ b ∈ r, b = 0xFF#8) ∨ crc16 (r.take 338) ≠ word16At r 338 ∨ 62 < (byteAt r 0).toNat ∨ ¬ recordInRange r) ∧
      ∀ c, loadRecord r = some c → c = configOfRecord r := by
  have hall : r.all (· == 0xFF#8) = true ↔ ∀ b ∈ r, b = 0xFF#8 := by simp
  unfold loadRecord
  dsimp only
  rw [recordRead_of_length h, ← configOfRecord_inRange, ← hall]
  split_ifs with hblank hcrc hstation hrange
  · simp [hblank]
  · simp [hcrc]
  · simp [hstation]
  · simp [hblank, hcrc, hstation, hrange, eq_comm]
  · simp [hrange]

/-! ### Templates (R95, R191) -/

/-- Template t of the record is used and every field of it is in range (R95). -/
def templateInRange (r : List Byte) (t : Nat) : Prop :=
  let byte := fun (i : Nat) => byteAt r (18 + 18 * t + i)
  let word := fun (i : Nat) => word16At r (18 + 18 * t + i)
  let function := (byte 0).extractLsb' 0 2
  (byte 0).getLsbD 7 = true ∧ (byte 2).toNat ≤ 15 ∧ (word 3).toNat ≤ 16383 ∧ (word 5).toNat ≤ 16383 ∧
    (word 3).toNat ≤ (word 5).toNat ∧ (byte 0).extractLsb' 2 2 ≠ 3#2 ∧ (word 7).toNat ≤ 4095 ∧ (word 9).toNat ≤ 4095 ∧
    ¬ ((function = 1#2 ∨ function = 2#2) ∧ word 11 = 0#16) ∧
    ¬ ((byte 0).getLsbD 6 = true ∧ word 13 = 0#16) ∧ byte 15 ≠ 0#8

/-- The fields of template t, from their places (R191). -/
def templateFields (r : List Byte) (t : Nat) : Template :=
  let byte := fun (i : Nat) => byteAt r (18 + 18 * t + i)
  let word := fun (i : Nat) => word16At r (18 + 18 * t + i)
  let blend := (byte 0).extractLsb' 2 2
  { number := byte 1
    priority := BitVec.ofNat 4 (byte 2).toNat
    first := BitVec.ofNat 14 (word 3).toNat
    last := BitVec.ofNat 14 (word 5).toNat
    blend := if blend = 0#2 then .replace else if blend = 1#2 then .highest else .scale
    function := LevelFunction.ofCode ((byte 0).extractLsb' 0 2)
    l0 := BitVec.ofNat 12 (word 7).toNat
    l1 := BitVec.ofNat 12 (word 9).toNat
    d := word 11
    duration := if (byte 0).getLsbD 6 then some (word 13) else none
    lead := byte 15
    fade := word 16
    orphan := OrphanPolicy.ofBit ((byte 0).getLsbD 5) }

theorem templateOfRecord_of_inRange {r : List Byte} {t : Nat} (h : templateInRange r t) :
    templateOfRecord r t = some (templateFields r t) := by
  obtain ⟨hused, hpriority, hfirst, hlast, hle, hblend, hl0, hl1, hperiod, hduration, hlead⟩ := h
  have hneeds : ¬ ((LevelFunction.ofCode ((byteAt r (18 + 18 * t)).extractLsb' 0 2)).needsPeriod &&
      word16At r (18 + 18 * t + 11) == 0#16) = true := by
    rw [Bool.and_eq_true, LevelFunction.needsPeriod_ofCode, beq_iff_eq]
    exact hperiod
  have hlasts : ¬ ((byteAt r (18 + 18 * t)).getLsbD 6 && word16At r (18 + 18 * t + 13) == 0#16) = true := by
    rw [Bool.and_eq_true, beq_iff_eq]
    exact hduration
  dsimp only [Nat.add_zero] at *
  unfold templateOfRecord
  dsimp only
  rw [Blend.ofCode_eq, if_neg hblend]
  dsimp only
  rw [if_neg (by simp [hused]), if_neg (by omega), if_neg (by omega), if_neg (by omega), if_neg hneeds, if_neg hlasts,
    if_neg hlead]
  rfl

theorem templateOfRecord_isSome {r : List Byte} {t : Nat} {tpl : Template} (h : templateOfRecord r t = some tpl) :
    templateInRange r t := by
  unfold templateOfRecord at h
  dsimp only at h
  rw [Blend.ofCode_eq] at h
  by_cases hblend : (byteAt r (18 + 18 * t)).extractLsb' 2 2 = 3#2
  · rw [if_pos hblend] at h
    contradiction
  · rw [if_neg hblend] at h
    dsimp only at h
    simp only [Option.ite_none_left_eq_some] at h
    obtain ⟨hused, hpriority, hrange, hlevels, hperiod, hduration, hlead, -⟩ := h
    rw [Bool.and_eq_true, LevelFunction.needsPeriod_ofCode, beq_iff_eq] at hperiod
    rw [Bool.and_eq_true, beq_iff_eq] at hduration
    rw [Bool.not_eq_true', Bool.not_eq_false] at hused
    exact ⟨hused, by dsimp only; omega, by dsimp only; omega, by dsimp only; omega, by dsimp only; omega, hblend,
      by dsimp only; omega, by dsimp only; omega, hperiod, hduration, hlead⟩

theorem templateOfRecord_eq_some (r : List Byte) (t : Nat) (tpl : Template) :
    templateOfRecord r t = some tpl ↔ templateInRange r t ∧ tpl = templateFields r t := by
  refine ⟨fun h => ?_, fun ⟨hrange, heq⟩ => heq ▸ templateOfRecord_of_inRange hrange⟩
  have hrange := templateOfRecord_isSome h
  exact ⟨hrange, Option.some.inj (h.symm.trans (templateOfRecord_of_inRange hrange))⟩

theorem templateOfRecord_eq_none (r : List Byte) (t : Nat) : templateOfRecord r t = none ↔ ¬ templateInRange r t := by
  rw [← not_iff_not, not_not, ← ne_eq, Option.ne_none_iff_exists']
  exact ⟨fun ⟨_, h⟩ => templateOfRecord_isSome h, fun h => ⟨_, templateOfRecord_of_inRange h⟩⟩

/-! ### Repeated cue numbers (R95) -/

theorem dropRepeats_length (l : List (Option Template)) : ∀ seen, (dropRepeats seen l).length = l.length := by
  induction l with
  | nil => exact fun _ => rfl
  | cons x rest ih =>
    intro seen
    cases x with
    | none => simp [dropRepeats, ih]
    | some t =>
      rw [dropRepeats]
      split <;> simp [ih]

/-- A place keeps its template exactly when no valid template before it, in the list or among `seen`, has its cue
number. -/
theorem dropRepeats_getD (l : List (Option Template)) : ∀ (seen : List Byte) (t : Nat),
    (∀ tpl, (dropRepeats seen l).getD t none = some tpl → l.getD t none = some tpl) ∧
      ∀ x, l.getD t none = some x →
        ((dropRepeats seen l).getD t none = none ↔
          x.number ∈ seen ∨ ∃ u < t, ∃ tpl, (dropRepeats seen l).getD u none = some tpl ∧ tpl.number = x.number) := by
  induction l with
  | nil => simp [dropRepeats]
  | cons first rest ih =>
    intro seen t
    have hstep : ∀ (head : Option Template) (tail : List (Option Template)) (x : Template) (n : Nat),
        (∃ u < n + 1, ∃ tpl, (head :: tail).getD u none = some tpl ∧ tpl.number = x.number) ↔
          (∃ tpl, head = some tpl ∧ tpl.number = x.number) ∨
            ∃ u < n, ∃ tpl, tail.getD u none = some tpl ∧ tpl.number = x.number := by
      intro head tail x n
      rw [Nat.exists_lt_succ_left]
      simp
    cases first with
    | none =>
      cases t with
      | zero => simp [dropRepeats]
      | succ n =>
        obtain ⟨hkept, hgone⟩ := ih seen n
        refine ⟨hkept, fun x hx => ?_⟩
        rw [dropRepeats, hstep]
        simpa using hgone x hx
    | some y =>
      by_cases hseen : y.number ∈ seen
      · rw [dropRepeats, if_pos (by simpa using hseen)]
        cases t with
        | zero => simp [hseen]
        | succ n =>
          obtain ⟨hkept, hgone⟩ := ih seen n
          refine ⟨hkept, fun x hx => ?_⟩
          rw [hstep]
          simpa using hgone x hx
      · rw [dropRepeats, if_neg (by simpa using hseen)]
        cases t with
        | zero => simp [hseen]
        | succ n =>
          obtain ⟨hkept, hgone⟩ := ih (y.number :: seen) n
          refine ⟨hkept, fun x hx => ?_⟩
          rw [hstep]
          have hgone := hgone x hx
          simp only [List.mem_cons, List.getD_cons_succ, Option.some.injEq, exists_eq_left'] at hgone ⊢
          rw [hgone, eq_comm (a := x.number), or_assoc, or_left_comm]

theorem templatesOfRecord_length (r : List Byte) : (templatesOfRecord r).length = 16 := by
  simp [templatesOfRecord, dropRepeats_length]

/-- A template of a record is valid when its fields are in range and no valid template before it has its cue number
(R95). -/
theorem templatesOfRecord_getD (r : List Byte) {t : Nat} (ht : t < 16) :
    ((templatesOfRecord r).getD t none = none ↔
      ¬ templateInRange r t ∨
        ∃ u < t, ∃ tpl, (templatesOfRecord r).getD u none = some tpl ∧ tpl.number = byteAt r (18 + 18 * t + 1)) ∧
      ∀ tpl, (templatesOfRecord r).getD t none = some tpl → tpl = templateFields r t := by
  obtain ⟨hkept, hgone⟩ := dropRepeats_getD ((List.range 16).map (templateOfRecord r)) [] t
  have hread : ((List.range 16).map (templateOfRecord r)).getD t none = templateOfRecord r t := by
    simp [List.getD_eq_getElem?_getD, List.getElem?_range ht]
  rw [hread] at hkept hgone
  refine ⟨?_, fun tpl h => ((templateOfRecord_eq_some r t tpl).mp (hkept tpl h)).2⟩
  by_cases hrange : templateInRange r t
  · have hx := hgone _ (templateOfRecord_of_inRange hrange)
    simp only [List.not_mem_nil, false_or] at hx
    simp only [hrange, not_true_eq_false, false_or]
    exact hx
  · simp only [hrange, not_false_eq_true, true_or, iff_true]
    refine Option.eq_none_iff_forall_not_mem.mpr fun tpl h => ?_
    exact hrange ((templateOfRecord_eq_some r t tpl).mp (hkept tpl h)).1

/-! ### Bindings (R86, R191) -/

theorem code_cases : ∀ c : BitVec 2, c = 0#2 ∨ c = 1#2 ∨ c = 2#2 ∨ c = 3#2 := by decide

/-- Binding b of the record is used, its codes are in range and its template is valid (R86). -/
def bindingInRange (r : List Byte) (templates : List (Option Template)) (b : Nat) : Prop :=
  let flags := byteAt r (306 + 2 * b)
  let template := (byteAt r (307 + 2 * b)).toNat
  flags.getLsbD 7 = true ∧ flags.extractLsb' 5 2 ≠ 3#2 ∧ flags.extractLsb' 3 2 ≠ 3#2 ∧ template ≤ 15 ∧
    templates.getD template none ≠ none

/-- The fields of binding b, from their places (R191). -/
def bindingFields (r : List Byte) (b : Nat) : Binding :=
  let flags := byteAt r (306 + 2 * b)
  let edge := flags.extractLsb' 5 2
  let action := flags.extractLsb' 3 2
  { input := (flags.extractLsb' 0 3).toNat
    edge := if edge = 0#2 then .rise else if edge = 1#2 then .fall else .both
    action := if action = 0#2 then .start else if action = 1#2 then .release else .toggle
    template := (byteAt r (307 + 2 * b)).toNat }

theorem bindingOfRecord_eq_ite (r : List Byte) (templates : List (Option Template)) (b : Nat) :
    let flags := byteAt r (306 + 2 * b)
    let template := (byteAt r (307 + 2 * b)).toNat
    bindingOfRecord r templates b =
      if flags.extractLsb' 5 2 = 3#2 then none
      else if flags.extractLsb' 3 2 = 3#2 then none
      else if flags.getLsbD 7 && decide (template ≤ 15) && (templates.getD template none).isSome then
        some (bindingFields r b)
      else none := by
  unfold bindingOfRecord bindingFields
  dsimp only
  generalize (byteAt r (306 + 2 * b)).extractLsb' 5 2 = edge
  generalize (byteAt r (306 + 2 * b)).extractLsb' 3 2 = action
  rcases code_cases edge with rfl | rfl | rfl | rfl <;>
    rcases code_cases action with rfl | rfl | rfl | rfl <;> rfl

theorem bindingOfRecord_spec (r : List Byte) (templates : List (Option Template)) (b : Nat) :
    (bindingOfRecord r templates b = none ↔ ¬ bindingInRange r templates b) ∧
      ∀ x, bindingOfRecord r templates b = some x → x = bindingFields r b := by
  rw [bindingOfRecord_eq_ite]
  unfold bindingInRange
  dsimp only
  split_ifs with hedge haction hvalid
  · simp [hedge]
  · simp [haction]
  · simp only [Bool.and_eq_true, decide_eq_true_eq, Option.isSome_iff_ne_none] at hvalid
    obtain ⟨⟨hused, hplace⟩, htemplate⟩ := hvalid
    have hrange := And.intro hused (And.intro hedge (And.intro haction (And.intro hplace htemplate)))
    exact ⟨by simpa using hrange, fun x hx => (Option.some.inj hx).symm⟩
  · simp only [Bool.and_eq_true, decide_eq_true_eq, Option.isSome_iff_ne_none] at hvalid
    simp only [true_iff, false_implies, implies_true, and_true]
    exact fun ⟨hused, _, _, hplace, htemplate⟩ => hvalid ⟨⟨hused, hplace⟩, htemplate⟩

/-- Settles O6, by the checks of the record one group at a time: the node-level fields, the templates, the bindings. -/
theorem recordChecks : Obligations.RecordChecks := by
  unfold Obligations.RecordChecks
  refine ⟨fun c t => List.getD_eq_getElem?_getD, fun r hr => ?_⟩
  obtain ⟨hnone, hsome⟩ := loadRecord_of_length hr
  refine ⟨hnone, fun c hc => ?_⟩
  obtain rfl := hsome c hc
  refine ⟨?_, templatesOfRecord_length r, by simp [configOfRecord], fun t ht => ?_, fun b hb => ?_⟩
  · rw [← clockDivider_ofCode]
    rfl
  · exact templatesOfRecord_getD r ht
  · have hread : (configOfRecord r).bindings[b]? = some (bindingOfRecord r (templatesOfRecord r) b) := by
      simp [configOfRecord, List.getElem?_range hb]
    dsimp only
    rw [hread, Option.some_inj]
    obtain ⟨hbad, hgood⟩ := bindingOfRecord_spec r (templatesOfRecord r) b
    exact ⟨hbad, fun x hx => hgood x (Option.some.inj hx)⟩

end Sys2Proof.Machine
end

section
/-! PROOFS. The end of a reception (R117, R119, R122 to R127): what is discarded, what is forwarded, what is stripped. -/

namespace Sys2Proof.Machine

/-! ### A message that the checks have accepted -/

/-- The END of a message whose row is reported takes the message from an empty receive buffer. -/
theorem endReception_of_accepted {row : Instr} {s : State} {b : List Byte} {m : Message} (hdone : s.doneBefore row)
    (hb : s.holds b) (hm : acceptance b = .accepted m) (hrow : s.rowOf m = row) (take : Message → State → State) :
    s.endReception row take = take m s.emptyReceive := by
  rw [endReception_of_done s row take hdone, received_of_holds s b hb, hm]
  exact if_pos hrow

theorem endReception_of_discarded {row : Instr} {s : State} {b : List Byte} (hdone : s.doneBefore row)
    (hb : s.holds b) (take : Message → State → State) :
    (acceptance b = .malformed → s.endReception row take = s.emptyReceive.count .malformed) ∧
      (acceptance b = .crcError → s.endReception row take = s.emptyReceive.count .crcError) := by
  rw [endReception_of_done s row take hdone, received_of_holds s b hb]
  exact ⟨fun h => by rw [h], fun h => by rw [h]⟩

/-- The checks of R117, one after another. -/
theorem acceptance_cases (b : List Byte) :
    (b.length < 18 → acceptance b = .malformed) ∧
      (18 ≤ b.length → crc16 (b.take (b.length - 2)) ≠ word16At b (b.length - 2) → acceptance b = .crcError) ∧
      (18 ≤ b.length → crc16 (b.take (b.length - 2)) = word16At b (b.length - 2) →
        acceptance b =
          if 32 < payloadLengthField b ∨ 16 + payloadLengthField b + 2 ≠ b.length ∨ (Message.ofBytes b).origin = 63#6
          then .malformed else .accepted (Message.ofBytes b)) := by
  unfold acceptance
  refine ⟨fun h => if_pos h, fun h hcrc => ?_, fun h hcrc => ?_⟩
  · rw [if_neg (Nat.not_lt.mpr h), if_pos hcrc]
  · rw [if_neg (Nat.not_lt.mpr h), if_neg (not_not.mpr hcrc)]

theorem Message.hopped_of_lt {m : Message} (h : m.hop.toNat < 62) : m.hopped = some { m with hop := m.hop + 1 } :=
  if_pos h

theorem Message.hopped_of_ge {m : Message} (h : 62 ≤ m.hop.toNat) : m.hopped = none :=
  if_neg (by omega)

theorem acceptKnown_of_ge {m : Message} (h : 62 ≤ m.hop.toNat) (s : State)
    (content : Message → State → Verdict × State) : s.acceptKnown m content = s.count .hopLimit := by
  unfold State.acceptKnown
  rw [Message.hopped_of_ge h]

theorem acceptUnknown_of_ge {m : Message} (h : 62 ≤ m.hop.toNat) (s : State) :
    s.acceptUnknown m = s.count .hopLimit := by
  unfold State.acceptUnknown
  rw [Message.hopped_of_ge h]

/-! ### The row of a message (R119, R125, R178, R187) -/

theorem requestRow_ne_stripped (m : Message) : requestRow m ≠ .ownMessageStripped := by
  unfold requestRow
  split <;> exact Instr.noConfusion

theorem rowOf_of_stripped {s : State} {m : Message} (h : s.stripped m = true) : s.rowOf m = .ownMessageStripped :=
  if_pos h

theorem stripped_of_rowOf {s : State} {m : Message} (h : s.rowOf m = .ownMessageStripped) : s.stripped m = true := by
  by_contra hn
  unfold State.rowOf at h
  rw [if_neg hn] at h
  split at h
  case h_6 => exact requestRow_ne_stripped m h
  all_goals exact Instr.noConfusion h

theorem stripped_iff (s : State) (m : Message) :
    s.stripped m = true ↔ m.origin = s.ownId ∧ s.controller.state.strips = true := by
  rw [State.stripped, Bool.and_eq_true, beq_iff_eq]

/-- Settles O9, by the checks in their order and the hop limit of either way to take a message. -/
theorem failedChecksDiscard : Obligations.FailedChecksDiscard := by
  unfold Obligations.FailedChecksDiscard
  intro row s b hrow hdone hb
  obtain ⟨take, hexec, htake⟩ := exec_of_rowEndsReception hrow
  obtain ⟨hshort, hcrc, hlast⟩ := acceptance_cases b
  obtain ⟨hmalformed, hcrcError⟩ := endReception_of_discarded hdone hb take
  rw [hexec]
  refine ⟨fun h => congrArg _ (hmalformed (hshort h)), fun h hne => congrArg _ (hcrcError (hcrc h hne)),
    fun h heq => ⟨fun hbad => congrArg _ (hmalformed ((hlast h heq).trans (if_pos hbad))), fun hle hlen horigin => ?_⟩,
    fun m hm hrow hstripped hhop => ?_⟩
  · exact ⟨_, (hlast h heq).trans (if_neg fun hbad => hbad.elim (Nat.not_lt.mpr hle)
      fun hbad => hbad.elim (fun hne => hne hlen) horigin)⟩
  · rw [endReception_of_accepted hdone hb hm hrow]
    rcases htake with ⟨content, -, rfl⟩ | ⟨-, rfl⟩ | ⟨rfl, -⟩
    · exact congrArg _ (acceptKnown_of_ge hhop _ content)
    · exact congrArg _ (acceptUnknown_of_ge hhop _)
    · rw [stripped_of_rowOf hrow] at hstripped
      contradiction

/-! ### Forwarding (R125, R127) -/

theorem forward_of_room {s : State} (h : s.ring.insertion.length < 4) (m : Message) :
    s.forward m =
      { s with ring := { s.ring with insertion := s.ring.insertion ++ [{ message := m, tick := s.now }] } } :=
  if_pos h

theorem forward_of_full {s : State} (h : 4 ≤ s.ring.insertion.length) (m : Message) :
    s.forward m =
      { s with
        counters := s.counters.bump .forwardOverflow
        responder := { s.responder with overflowSeen := true } } :=
  if_neg (Nat.not_lt.mpr h)

/-- Settles O12, by the two cases of the insertion buffer. -/
theorem unknownKindIsForwarded : Obligations.UnknownKindIsForwarded := by
  unfold Obligations.UnknownKindIsForwarded
  intro s b m hdone hb hm hrow hhop
  have hexec : exec .unknownKind s =
      .next (({ s.emptyReceive with counters := s.counters.bump .unknownKind } : State).forward
        { m with hop := m.hop + 1 }) := by
    change Host.Outcome.next (s.endReception .unknownKind fun m ready => ready.acceptUnknown m) = _
    rw [endReception_of_accepted (doneBefore_of_momentDone hdone _) hb hm hrow]
    unfold State.acceptUnknown
    rw [Message.hopped_of_lt hhop]
    rfl
  refine ⟨fun hroom => ?_, fun hfull => ?_⟩
  · exact hexec.trans (congrArg _ (forward_of_room (by exact hroom) _))
  · exact hexec.trans (congrArg _ (forward_of_full (by exact hfull) _))

theorem requestRow_of_unknown {m : Message} (h : byteAt m.payload 0 = 0#8 ∨ 8 ≤ (byteAt m.payload 0).toNat) :
    requestRow m = .badSelector := by
  have hcode : Selector.ofCode (byteAt m.payload 0) = none := by
    unfold Selector.ofCode
    split
    case h_8 => rfl
    all_goals
      rename_i hvalue
      rcases h with h | h
      · rw [h] at hvalue
        contradiction
      · omega
  rw [requestRow, hcode]

theorem rowOf_of_unknown {s : State} {m : Message} (hs : s.stripped m = false) (h : m.kind = 0#4 ∨ 8 ≤ m.kind.toNat) :
    s.rowOf m = .unknownKind := by
  unfold State.rowOf
  rw [hs, if_neg Bool.false_ne_true]
  split
  case h_8 => rfl
  all_goals
    rename_i hvalue
    rcases h with h | h
    · rw [h] at hvalue
      contradiction
    · omega

theorem rowOf_of_not_stripped {s : State} {m : Message} (hs : s.stripped m = false) :
    (m.kind = 1#4 → s.rowOf m = .beacon) ∧ (m.kind = 2#4 → s.rowOf m = .join) ∧
      (m.kind = 3#4 → s.rowOf m = .cue) ∧ (m.kind = 4#4 → s.rowOf m = .release) ∧
      (m.kind = 5#4 → s.rowOf m = .clear) ∧ (m.kind = 6#4 → s.rowOf m = requestRow m) ∧
      (m.kind = 7#4 → s.rowOf m = .answer) := by
  unfold State.rowOf
  rw [hs, if_neg Bool.false_ne_true]
  refine ⟨?_, ?_, ?_, ?_, ?_, ?_, ?_⟩ <;>
    · intro h
      rw [h]
      rfl

theorem requestRow_of_code (m : Message) :
    let selector := byteAt m.payload 0
    (selector = 1#8 → requestRow m = .readStatus) ∧ (selector = 2#8 → requestRow m = .readCounters) ∧
      (selector = 3#8 → requestRow m = .readCue) ∧ (selector = 4#8 → requestRow m = .readPeer) ∧
      (selector = 5#8 → requestRow m = .readChannel) ∧ (selector = 6#8 → requestRow m = .clearCounters) ∧
      (selector = 7#8 → requestRow m = .restart) := by
  unfold requestRow
  refine ⟨?_, ?_, ?_, ?_, ?_, ?_, ?_⟩ <;>
    · intro h
      rw [h]
      rfl

theorem bumpSix_toNat (x : BitVec 6) : (bumpSix x).toNat = min 63 (x.toNat + 1) := by
  unfold bumpSix
  split
  · next h => rw [h]; rfl
  · next h => bv_omega

theorem strips_iff (n : NodeState) :
    n.strips = true ↔ n ∈ [NodeState.listen, .admitting, .ring, .isolated] := by
  cases n <;> decide

/-- What the handling of a message of known kind within the hop limit leaves (R123 to R126). -/
theorem acceptKnown_of_lt {m : Message} (h : m.hop.toNat < 62) (s : State)
    (content : Message → State → Verdict × State) :
    s.acceptKnown m content =
      (((s.hear { m with hop := m.hop + 1 }).handOn { m with hop := m.hop + 1 } content).2.forward
        ({ m with hop := m.hop + 1 }.handled
          ((s.hear { m with hop := m.hop + 1 }).handOn { m with hop := m.hop + 1 } content).1)) := by
  unfold State.acceptKnown
  rw [Message.hopped_of_lt h]

theorem Message.handled_eq (m : Message) (v : Verdict) :
    m.handled v =
      { m with
        seen := if v = .malformed then m.seen else bumpSix m.seen
        refused := if v = .refused then bumpSix m.refused else m.refused } := by
  cases v <;> rfl

/-- Settles O11, by the row of each kind and by the parts of the handling: hearing, handing on, forwarding. -/
theorem knownMessagesAreHandled : Obligations.KnownMessagesAreHandled := by
  unfold Obligations.KnownMessagesAreHandled
  refine ⟨bumpSix_toNat, fun _ _ => rfl, fun s m => ⟨rfl, ?_, rowOf_of_stripped, fun hs => ?_⟩, ?_⟩
  · rw [stripped_iff, strips_iff]
    rfl
  · obtain ⟨hbeacon, hjoin, hcue, hrelease, hclear, hrequest, hanswer⟩ := rowOf_of_not_stripped hs
    refine ⟨hbeacon, hjoin, hcue, hrelease, hclear, hanswer, rowOf_of_unknown hs, fun h => ?_⟩
    rw [hrequest h]
    obtain ⟨h1, h2, h3, h4, h5, h6, h7⟩ := requestRow_of_code m
    exact ⟨h1, h2, h3, h4, h5, h6, h7, requestRow_of_unknown⟩
  · intro row content s b m hcontent hdone hb hm hrow hhop
    have hexec := exec_of_rowContent hcontent s
    rw [endReception_of_accepted hdone hb hm hrow, acceptKnown_of_lt hhop, Message.handled_eq] at hexec
    refine ⟨s.emptyReceive.hear { m with hop := m.hop + 1 },
      ((s.emptyReceive.hear { m with hop := m.hop + 1 }).handOn { m with hop := m.hop + 1 } content).2,
      ((s.emptyReceive.hear { m with hop := m.hop + 1 }).handOn { m with hop := m.hop + 1 } content).1, _, hexec, rfl,
      fun h => ?_, fun h => ?_, fun h => ?_, fun h => ?_⟩
    · exact if_pos h
    · have hlength : ¬ ({ m with hop := m.hop + 1 } : Message).lengthAllowed = true :=
        fun hallowed => Bool.noConfusion (h.symm.trans hallowed)
      unfold State.handOn
      rw [if_neg hlength]
      exact ⟨rfl, rfl⟩
    · exact forward_of_room h _
    · exact forward_of_full h _

/-! ### Stray echoes (R120, R166, R167) -/

theorem strayEcho_of_unjudged {s : State} (h : s.controller.state.sendsOwn = false ∨ 0 < s.controller.grace) :
    s.strayEcho = s.count .strayEcho := by
  unfold State.strayEcho
  dsimp only
  rw [if_neg]
  rintro ⟨hsends, hgrace⟩
  rw [hsends] at h
  exact h.elim Bool.noConfusion (by omega)

theorem strayEcho_of_listed {s : State} (hsends : s.controller.state.sendsOwn = true) (hgrace : s.controller.grace = 0)
    (hages : s.controller.strayAges.length < 2) :
    s.strayEcho =
      { s with
        counters := s.counters.bump .strayEcho
        controller := { s.controller with strayAges := s.controller.strayAges ++ [0] } } := by
  unfold State.strayEcho
  dsimp only
  rw [if_pos ⟨hsends, hgrace⟩, if_neg]
  · rfl
  · simp
    omega

theorem enterClash_eq (s : State) :
    s.enterClash =
      { s with
        composer :=
          { s.composer with
            isolationEntry := if s.controller.state = .isolated then none else s.composer.isolationEntry }
        controller := { s.controller with state := .clash } } := by
  unfold State.enterClash
  dsimp only
  split <;> rfl

theorem strayEcho_of_clash {s : State} (hsends : s.controller.state.sendsOwn = true) (hgrace : s.controller.grace = 0)
    (hages : 2 ≤ s.controller.strayAges.length) :
    s.strayEcho =
      { s with
        counters := s.counters.bump .strayEcho
        composer :=
          { s.composer with
            isolationEntry := if s.controller.state = .isolated then none else s.composer.isolationEntry }
        controller := { s.controller with strayAges := s.controller.strayAges ++ [0], state := .clash } } := by
  unfold State.strayEcho
  dsimp only
  rw [if_pos ⟨hsends, hgrace⟩, if_pos]
  · exact enterClash_eq _
  · simp
    omega

/-- A stripped message is taken from an empty receive buffer, as a return or as a stray echo (R119, R120). -/
theorem exec_ownMessageStripped {s : State} {b : List Byte} {m : Message} (hdone : s.momentDone) (hb : s.holds b)
    (hm : acceptance b = .accepted m) (horigin : m.origin = s.ownId) (hstrips : s.controller.state.strips = true) :
    exec .ownMessageStripped s = .next (takeStripped m s.emptyReceive) :=
  congrArg _ (endReception_of_accepted (doneBefore_of_momentDone hdone _) hb hm
    (rowOf_of_stripped ((stripped_iff s m).mpr ⟨horigin, hstrips⟩)) _)

theorem takeStripped_of_stray {m : Message} {s : State} (h : m.sequence ∉ s.ring.recent) :
    takeStripped m s = s.strayEcho :=
  if_neg fun hc => h (List.contains_iff_mem.mp hc)

theorem takeStripped_of_return {m : Message} {s : State} (h : m.sequence ∈ s.ring.recent) :
    takeStripped m s = (s.monitorReturn.publicationReturn m).controllerReturn m.sequence :=
  if_pos (List.contains_iff_mem.mpr h)

/-- Settles O14, by the cases of the judgement of an echo and of the ages' row. -/
theorem strayEchoes : Obligations.StrayEchoes := by
  unfold Obligations.StrayEchoes
  refine ⟨fun s b m hdone hb hm horigin hstrips hstray => ?_, fun s => ⟨fun hdue => ?_, fun hdue => ⟨fun hs => ?_,
    fun hs => ?_⟩⟩⟩
  · have hexec : exec .ownMessageStripped s = .next s.emptyReceive.strayEcho :=
      (exec_ownMessageStripped hdone hb hm horigin hstrips).trans (congrArg _ (takeStripped_of_stray (by exact hstray)))
    exact ⟨fun h => hexec.trans (congrArg _ (strayEcho_of_unjudged (by exact h))),
      fun hsends hgrace hages => hexec.trans (congrArg _ (strayEcho_of_listed (by exact hsends) hgrace hages)),
      fun hsends hgrace hages => hexec.trans (congrArg _ (strayEcho_of_clash (by exact hsends) hgrace hages))⟩
  · exact congrArg _ (if_neg (by rw [hdue]; exact Bool.false_ne_true))
  · have htake : s.takeStrayAges = s.withDue { s.due with strayAges := false } := by
      unfold State.takeStrayAges
      rw [if_pos hdue, hs]
      rfl
    exact congrArg _ htake
  · have htake : s.takeStrayAges = (s.withDue { s.due with strayAges := false }).expireStrayAges := by
      unfold State.takeStrayAges
      rw [if_pos hdue, hs]
      rfl
    exact congrArg _ htake

end Sys2Proof.Machine
end

section
/-! PROOFS. Bytes on the link (R186 to R189): words, the CRC, the header, and the payloads of CUE and RELEASE. -/

namespace Sys2Proof.Machine

/-! ### Bytes and words (R186) -/

theorem bytes_join16 (x : BitVec 16) : x.extractLsb' 8 8 ++ x.extractLsb' 0 8 = x := by
  ext i hi
  simp only [BitVec.getElem_append, BitVec.getElem_extractLsb']
  split_ifs
  all_goals rw [← BitVec.getLsbD_eq_getElem hi]; congr 1; omega

theorem bytes_join24 (x : BitVec 24) :
    x.extractLsb' 16 8 ++ x.extractLsb' 8 8 ++ x.extractLsb' 0 8 = x := by
  ext i hi
  simp only [BitVec.getElem_append, BitVec.getElem_extractLsb']
  split_ifs
  all_goals rw [← BitVec.getLsbD_eq_getElem hi]; congr 1; omega

theorem bytes_join32 (x : BitVec 32) :
    x.extractLsb' 24 8 ++ x.extractLsb' 16 8 ++ x.extractLsb' 8 8 ++ x.extractLsb' 0 8 = x := by
  ext i hi
  simp only [BitVec.getElem_append, BitVec.getElem_extractLsb']
  split_ifs
  all_goals rw [← BitVec.getLsbD_eq_getElem hi]; congr 1; omega

theorem bytes_append_assoc (a b c d : Byte) : a ++ b ++ c ++ d = (a ++ b) ++ (c ++ d) := by
  ext j hj
  simp only [BitVec.getElem_append]
  grind

theorem word32At_eq (b : List Byte) (i : Nat) : word32At b i = word16At b i ++ word16At b (i + 2) :=
  bytes_append_assoc _ _ _ _

theorem extract_high {a b : Nat} (x : BitVec a) (y : BitVec b) : (x ++ y).extractLsb' b a = x := by
  ext i hi
  simp [BitVec.getLsbD_append, BitVec.getLsbD_eq_getElem hi]

theorem extract_low {a b : Nat} (x : BitVec a) (y : BitVec b) : (x ++ y).extractLsb' 0 b = y := by
  ext i hi
  simp [BitVec.getLsbD_append, hi]

/-! ### Lengths (R189) -/

theorem lengthAllowed_iff (m : Message) :
    m.lengthAllowed = true ↔
      (m.kind = 1#4 ∧ m.payload.length = 16) ∨ (m.kind = 2#4 ∧ m.payload.length = 6) ∨
        (m.kind = 3#4 ∧ m.payload.length = if (byteAt m.payload 15).getLsbD 6 then 20 else 16) ∨
        (m.kind = 4#4 ∧ m.payload.length = 8) ∨ (m.kind = 5#4 ∧ m.payload.length = 5) ∨
        (m.kind = 6#4 ∧ m.payload.length = 2) ∨
        (m.kind = 7#4 ∧ 3 ≤ m.payload.length ∧ m.payload.length ≤ 27) := by
  unfold Message.lengthAllowed cueEndPresent
  simp only [BitVec.toNat_eq (n := 4)]
  split
  case h_3 h =>
    rw [h]
    split <;> simp
  all_goals
    rename_i h
    simp_all

/-! ### The CRC (R188) -/

theorem crc16_append (b : List Byte) (x : Byte) :
    crc16 (b ++ [x]) =
      [7, 6, 5, 4, 3, 2, 1, 0].foldl
        (fun (crc : BitVec 16) (k : Nat) => if crc.msb ≠ x.getLsbD k then (crc <<< 1) ^^^ 0x1021#16 else crc <<< 1)
        (crc16 b) := by
  have hbit : ∀ (crc : BitVec 16) (bit : Bool),
      crcBit crc bit = if crc.msb ≠ bit then (crc <<< 1) ^^^ 0x1021#16 else crc <<< 1 := by
    intro crc bit
    unfold crcBit
    cases crc.msb <;> cases bit <;> rfl
  rw [crc16, List.foldl_append]
  simp only [List.foldl_cons, List.foldl_nil, crcByte, hbit]
  rfl

/-! ### The header (R187) -/

theorem header_length (m : Message) : m.header.length = 16 := rfl

theorem bytes_length (m : Message) : m.bytes.length = m.length := by
  simp only [Message.bytes, List.length_append, header_length, be16, List.length_cons, List.length_nil, Message.length]
  omega

theorem bytes_take (m : Message) : m.bytes.take (m.bytes.length - 2) = m.header ++ m.payload :=
  List.take_left' (by rw [bytes_length, List.length_append, header_length, Message.length]; omega)

theorem bytes_crc (m : Message) : word16At m.bytes (m.bytes.length - 2) = crc16 (m.header ++ m.payload) := by
  have hplace : m.bytes.length - 2 = (m.header ++ m.payload).length := by
    rw [bytes_length, List.length_append, header_length, Message.length]
    omega
  have hbyte : ∀ i, byteAt m.bytes ((m.header ++ m.payload).length + i) =
      byteAt (be16 (crc16 (m.header ++ m.payload))) i := by
    intro i
    rw [byteAt, Message.bytes, List.getD_append_right _ _ _ _ (by omega), Nat.add_sub_cancel_left]
    rfl
  rw [hplace, word16At, hbyte 1, ← Nat.add_zero (List.length _), hbyte 0]
  exact bytes_join16 _

/-- The fields of a message come back from its bytes. -/
theorem ofBytes_bytes (m : Message) : Message.ofBytes m.bytes = m := by
  have hpayload : (m.bytes.take (m.bytes.length - 2)).drop 16 = m.payload := by
    rw [bytes_take]
    exact List.drop_left' (header_length m)
  unfold Message.ofBytes
  rw [hpayload]
  have hkind : (byteAt m.bytes 0).extractLsb' 4 4 = m.kind := extract_high m.kind 0#4
  have horigin : (byteAt m.bytes 1).extractLsb' 0 6 = m.origin := extract_low 0#2 m.origin
  have htarget : (byteAt m.bytes 2).extractLsb' 0 6 = m.target := extract_low 0#2 m.target
  have hhop : (byteAt m.bytes 4).extractLsb' 0 6 = m.hop := extract_low 0#2 m.hop
  have hseen : (byteAt m.bytes 5).extractLsb' 0 6 = m.seen := extract_low 0#2 m.seen
  have hrefused : (byteAt m.bytes 6).extractLsb' 0 6 = m.refused := extract_low 0#2 m.refused
  have hstep : word32At m.bytes 8 = m.stampStep := bytes_join32 m.stampStep
  have hphase : word16At m.bytes 12 = m.stampPhase := bytes_join16 m.stampPhase
  have htransit : word16At m.bytes 14 = m.transit := bytes_join16 m.transit
  rw [hkind, horigin, htarget, hhop, hseen, hrefused, hstep, hphase, htransit]
  rfl

theorem payloadLengthField_bytes {m : Message} (h : m.payload.length ≤ 32) :
    payloadLengthField m.bytes = m.payload.length := by
  have hfield : (byteAt m.bytes 7).extractLsb' 0 6 = BitVec.ofNat 6 m.payload.length := extract_low 0#2 _
  rw [payloadLengthField, hfield, BitVec.toNat_ofNat]
  omega

theorem acceptance_bytes {m : Message} (hlength : m.payload.length ≤ 32) (horigin : m.origin ≠ 63#6) :
    acceptance m.bytes = .accepted m := by
  have hlong : 18 ≤ m.bytes.length := by
    rw [bytes_length, Message.length]
    omega
  rw [(acceptance_cases m.bytes).2.2 hlong (by rw [bytes_take, bytes_crc]), payloadLengthField_bytes hlength,
    ofBytes_bytes, bytes_length, Message.length, if_neg]
  rintro (h | h | h)
  · omega
  · omega
  · exact horigin h

/-- The payload of an accepted message, by its length field. -/
theorem payload_of_accepted {b : List Byte} {m : Message} (h : acceptance b = .accepted m) :
    m = { Message.ofBytes b with payload := (b.drop 16).take (payloadLengthField b) } := by
  unfold acceptance at h
  split_ifs at h with hshort hcrc hbad
  cases h
  have hlength : b.length - 2 - 16 = payloadLengthField b := by omega
  have hpayload : (b.take (b.length - 2)).drop 16 = (b.drop 16).take (payloadLengthField b) := by
    rw [List.drop_take, hlength]
  rw [← hpayload]
  rfl

/-! ### The payload of a CUE (R3, R189) -/

/-- The fields of a CUE payload, from their places; a blend code of 3 is judged apart. -/
def cueFields (o : NodeId) (p : List Byte) : Cue :=
  let blend := (word16At p 2).extractLsb' 14 2
  let levels := byteAt p 6 ++ byteAt p 7 ++ byteAt p 8
  { origin := o
    number := byteAt p 0
    revision := (byteAt p 1).extractLsb' 4 4
    priority := (byteAt p 1).extractLsb' 0 4
    first := (word16At p 2).extractLsb' 0 14
    last := (word16At p 4).extractLsb' 0 14
    blend := if blend = 0#2 then .replace else if blend = 1#2 then .highest else .scale
    function := LevelFunction.ofCode ((word16At p 4).extractLsb' 14 2)
    l0 := levels.extractLsb' 12 12
    l1 := levels.extractLsb' 0 12
    d := word16At p 9
    start := word32At p 11
    stop := if (byteAt p 15).getLsbD 6 then some (word32At p 16) else none
    orphan := OrphanPolicy.ofBit ((byteAt p 15).getLsbD 7) }

/-- What the check of R3 turns away. -/
def cueOutOfRange (p : List Byte) : Prop :=
  (word16At p 2).extractLsb' 14 2 = 3#2 ∨
    ((word16At p 4).extractLsb' 0 14).toNat < ((word16At p 2).extractLsb' 0 14).toNat ∨
    (((word16At p 4).extractLsb' 14 2 = 1#2 ∨ (word16At p 4).extractLsb' 14 2 = 2#2) ∧ word16At p 9 = 0#16)

theorem cueOfPayload_of_outOfRange (o : NodeId) {p : List Byte} (h : cueOutOfRange p) : cueOfPayload o p = none := by
  by_cases hblend : (word16At p 2).extractLsb' 14 2 = 3#2
  · unfold cueOfPayload
    rw [Blend.ofCode_eq, if_pos hblend]
  · have hrest := Or.resolve_left h hblend
    rw [← LevelFunction.needsPeriod_ofCode] at hrest
    unfold cueOfPayload
    rw [Blend.ofCode_eq, if_neg hblend]
    dsimp only
    split_ifs with hchannels hperiod
    · rfl
    · rfl
    · rw [Bool.and_eq_true, beq_iff_eq] at hperiod
      exact absurd (hrest.resolve_left hchannels) hperiod

theorem cueOfPayload_of_inRange (o : NodeId) {p : List Byte} (h : ¬ cueOutOfRange p) :
    cueOfPayload o p = some (cueFields o p) := by
  unfold cueOutOfRange at h
  push Not at h
  obtain ⟨hblend, hchannels, hperiod⟩ := h
  have hneeds : ¬ ((LevelFunction.ofCode ((word16At p 4).extractLsb' 14 2)).needsPeriod && word16At p 9 == 0#16) =
      true := by
    rw [Bool.and_eq_true, LevelFunction.needsPeriod_ofCode, beq_iff_eq]
    exact fun h => hperiod h.1 h.2
  unfold cueOfPayload
  rw [Blend.ofCode_eq, if_neg hblend]
  dsimp only
  rw [if_neg (Nat.not_lt.mpr hchannels), if_neg hneeds]
  rfl

theorem Blend.ofCode_code (b : Blend) : Blend.ofCode b.code = some b := by cases b <;> rfl

theorem LevelFunction.ofCode_code (f : LevelFunction) : LevelFunction.ofCode f.code = f := by cases f <;> rfl

theorem orphanFlag_eq : ∀ (o : OrphanPolicy) (ends : Bool),
    (o.bit ++ boolBit ends ++ 0#6 : Byte).getLsbD 6 = ends ∧
      OrphanPolicy.ofBit ((o.bit ++ boolBit ends ++ 0#6 : Byte).getLsbD 7) = o
  | .keep, false => ⟨rfl, rfl⟩
  | .keep, true => ⟨rfl, rfl⟩
  | .drop, false => ⟨rfl, rfl⟩
  | .drop, true => ⟨rfl, rfl⟩

theorem Cue.payload_flags (c : Cue) :
    (byteAt c.payload 15).getLsbD 6 = c.stop.isSome ∧ OrphanPolicy.ofBit ((byteAt c.payload 15).getLsbD 7) = c.orphan :=
  orphanFlag_eq c.orphan c.stop.isSome

theorem Cue.payload_stop (c : Cue) :
    (if (byteAt c.payload 15).getLsbD 6 then some (word32At c.payload 16) else none) = c.stop := by
  rw [c.payload_flags.1]
  have hend : ∀ e, c.stop = some e → word32At c.payload 16 = e := by
    intro e he
    unfold Cue.payload
    rw [he]
    exact bytes_join32 e
  cases hstop : c.stop with
  | none => rfl
  | some e => rw [hend e hstop]; rfl

/-- A cue comes back from its payload. -/
theorem cueOfPayload_payload {c : Cue} (hchannels : c.first.toNat ≤ c.last.toNat)
    (hperiod : c.function = .ramp ∨ c.function = .alternate → c.d ≠ 0#16) :
    cueOfPayload c.origin c.payload = some c := by
  have hranges : word16At c.payload 2 = c.blend.code ++ c.first := bytes_join16 _
  have hlast : word16At c.payload 4 = c.function.code ++ c.last := bytes_join16 _
  have hrevision : byteAt c.payload 1 = c.revision ++ c.priority := rfl
  have hlevels : byteAt c.payload 6 ++ byteAt c.payload 7 ++ byteAt c.payload 8 = c.l0 ++ c.l1 := bytes_join24 _
  have hd : word16At c.payload 9 = c.d := bytes_join16 _
  have hstart : word32At c.payload 11 = c.start := bytes_join32 _
  have hneeds : ¬ (c.function.needsPeriod && c.d == 0#16) = true := by
    rw [Bool.and_eq_true, beq_iff_eq]
    rintro ⟨hfunction, hzero⟩
    refine hperiod ?_ hzero
    revert hfunction
    cases c.function <;> simp [LevelFunction.needsPeriod]
  unfold cueOfPayload cueEndPresent
  rw [hranges, hlast, hrevision, hlevels, hd, hstart, extract_high, extract_high, extract_high, extract_high,
    extract_low, extract_low, extract_low, extract_low, Blend.ofCode_code, LevelFunction.ofCode_code, c.payload_stop,
    c.payload_flags.2]
  dsimp only
  rw [if_neg (Nat.not_lt.mpr hchannels), if_neg hneeds]
  rfl

theorem Cue.payload_length (c : Cue) :
    c.payload.length = if (byteAt c.payload 15).getLsbD 6 then 20 else 16 := by
  rw [c.payload_flags.1]
  unfold Cue.payload
  cases c.stop <;> rfl

/-- Settles O10, part by part: bytes, lengths, the message's own bytes, the CRC, and the two payloads. -/
theorem messagesAreReadAsWritten : Obligations.MessagesAreReadAsWritten := by
  unfold Obligations.MessagesAreReadAsWritten
  refine ⟨⟨fun _ => rfl, fun _ => rfl, fun b i => ⟨List.getD_eq_getElem?_getD, rfl, word32At_eq b i⟩⟩,
    lengthAllowed_iff, fun m => ⟨rfl, fun hlength horigin => ⟨acceptance_bytes hlength horigin, bytes_length m⟩⟩,
    ⟨rfl, crc16_append⟩, fun b m h => payload_of_accepted h,
    fun c hchannels hperiod => ⟨cueOfPayload_payload hchannels hperiod, fun m hkind hpayload => ?_⟩,
    fun number revision r => ⟨rfl, extract_low 0#4 revision, bytes_join32 r.step, bytes_join16 r.fade,
      fun m hkind hpayload => ?_⟩, fun o p => ⟨fun h => ?_, cueOfPayload_of_outOfRange o⟩, fun o p c h => ?_⟩
  · rw [lengthAllowed_iff, hpayload]
    exact Or.inr (Or.inr (Or.inl ⟨hkind, c.payload_length⟩))
  · rw [lengthAllowed_iff, hpayload]
    exact Or.inr (Or.inr (Or.inr (Or.inl ⟨hkind, rfl⟩)))
  · by_contra hrange
    rw [cueOfPayload_of_inRange o hrange] at h
    contradiction
  · by_cases hrange : cueOutOfRange p
    · rw [cueOfPayload_of_outOfRange o hrange] at h
      contradiction
    · rw [cueOfPayload_of_inRange o hrange] at h
      exact (Option.some.inj h).symm

end Sys2Proof.Machine
end

section
/-! PROOFS. The transmit arbiter (R131 to R134): what a grant sends, and what the end of a transmission does. -/

namespace Sys2Proof.Machine

/-! ### Grants (R131 to R133) -/

theorem addTransit_eq (t : BitVec 16) (n : Nat) : addTransit t n = BitVec.ofNat 16 (min 65535 (t.toNat + n)) := by
  unfold addTransit
  split
  · next h => rw [Nat.min_eq_left (by omega)]
  · next h => rw [Nat.min_eq_right (by omega)]

theorem exec_grant_of_quiet {s : State} (h : s.quiet) (partTick : Bool) :
    exec (.grant partTick) s = .next (s.grant partTick) := by
  change Host.Outcome.next (s.settle.grant partTick) = _
  rw [settle_of_quiet s h]

theorem linkFree_iff (s : State) :
    s.linkFree = true ↔ s.ring.mode = .storeAndForward ∧ s.ring.transmitter = .idle := by
  rw [State.linkFree, Bool.and_eq_true, beq_iff_eq, beq_iff_eq]

theorem ownEligible_iff (s : State) :
    s.ownEligible = true ↔ s.ring.sendQueue ≠ [] ∧ s.controller.state.sendsOwn = true := by
  rw [State.ownEligible, Bool.and_eq_true, Bool.not_eq_true', List.isEmpty_eq_false_iff, and_comm]

theorem grant_of_busy {s : State} (h : s.linkFree = false) (partTick : Bool) : s.grant partTick = s := by
  unfold State.grant
  rw [h]
  rfl

theorem grant_of_nothing {s : State} (hinsertion : s.ring.insertion = []) (hown : s.ownEligible = false)
    (partTick : Bool) : s.grant partTick = s := by
  unfold State.grant
  rw [hinsertion, hown]
  cases s.ring.sendQueue <;> exact ite_self _

/-- The insertion buffer's head is granted unless the guard lets an eligible own message through (R131). -/
theorem grant_of_forwarded {s : State} {w : Waiting} {rest : List Waiting} (hfree : s.linkFree = true)
    (hinsertion : s.ring.insertion = w :: rest) (hown : ¬ (s.ownEligible = true ∧ 16 ≤ s.ring.guardCount))
    (partTick : Bool) : s.grant partTick = s.grantForwarded w rest partTick := by
  have hguard : ¬ (s.ownEligible && decide (16 ≤ s.ring.guardCount)) = true := by
    rwa [Bool.and_eq_true, decide_eq_true_eq]
  unfold State.grant
  rw [hfree, hinsertion]
  cases s.ring.sendQueue with
  | nil => rfl
  | cons o rest => exact if_neg hguard

/-- The send queue's head is granted when nothing waits to be forwarded, or when the guard stands at 16 (R131). -/
theorem grant_of_own {s : State} {o : OwnMessage} {rest : List OwnMessage} (hfree : s.linkFree = true)
    (hqueue : s.ring.sendQueue = o :: rest) (hown : s.ownEligible = true)
    (hturn : s.ring.insertion = [] ∨ 16 ≤ s.ring.guardCount) (partTick : Bool) :
    s.grant partTick = s.grantOwn o rest := by
  unfold State.grant
  rw [hfree, hqueue, hown]
  cases hinsertion : s.ring.insertion with
  | nil => rfl
  | cons w ws =>
    have hguard : 16 ≤ s.ring.guardCount := hturn.resolve_left (by rw [hinsertion]; exact List.cons_ne_nil _ _)
    rw [decide_eq_true hguard]
    rfl

/-- Settles O17, by the three ways in which no own message is granted. -/
theorem grantForwardsOrWaits : Obligations.GrantForwardsOrWaits := by
  unfold Obligations.GrantForwardsOrWaits
  intro s partTick hquiet
  rw [exec_grant_of_quiet hquiet]
  refine ⟨fun hbusy => ?_, fun hinsertion hown => ?_, fun w rest hmode hidle hinsertion hown => ?_⟩
  · refine congrArg _ (grant_of_busy (Bool.eq_false_iff.mpr fun hfree => ?_) partTick)
    obtain ⟨hmode, hidle⟩ := (linkFree_iff s).mp hfree
    rw [hmode, hidle] at hbusy
    simp at hbusy
  · refine congrArg _ (grant_of_nothing hinsertion (Bool.eq_false_iff.mpr fun helig => ?_) partTick)
    obtain ⟨hqueue, hsends⟩ := (ownEligible_iff s).mp helig
    rw [hsends] at hown
    exact hown.elim hqueue Bool.noConfusion
  · rw [← and_assoc, ← ownEligible_iff] at hown
    rw [grant_of_forwarded ((linkFree_iff s).mpr ⟨hmode, hidle⟩) hinsertion hown, State.grantForwarded,
      State.departing, addTransit_eq]
    simp only [← ownEligible_iff, ← Nat.add_assoc]
    rfl

theorem startWatch_of_sendsOwn {s : State} (h : s.controller.state.sendsOwn = true) :
    s.startWatch =
      { s with controller := { s.controller with watch := some (s.controller.watch.getD s.time.step) } } := by
  unfold State.startWatch
  rw [h]
  cases hwatch : s.controller.watch with
  | none => rfl
  | some w =>
    change s = _
    rw [Option.getD_some, ← hwatch]

theorem recordJoinSent_eq (s : State) (kind : OwnKind) (q : Byte) :
    s.recordJoinSent kind q =
      { s with
        controller :=
          { s.controller with
            joinSent :=
              if kind = .join ∧ q ∈ s.controller.joinSequences then some s.time.step else s.controller.joinSent } } := by
  unfold State.recordJoinSent
  simp only [List.contains_iff_mem]
  split <;> rfl

theorem recordSent_eq (s : State) (kind : OwnKind) (q : Byte) :
    s.recordSent kind q =
      { s with
        publications := s.publications.map fun e =>
          if e.onRing = true ∧ e.sequence = q ∧ e.kind.ownKind = kind then { e with sent := some s.time.step } else e } := by
  unfold State.recordSent
  simp only [Bool.and_eq_true, beq_iff_eq, and_assoc]
  rfl

/-- Settles O18, by the reports that the start of an own transmission makes, one after another. -/
theorem grantSendsOwn : Obligations.GrantSendsOwn := by
  unfold Obligations.GrantSendsOwn
  refine ⟨rfl, ⟨rfl, rfl⟩, fun s partTick o rest hquiet hmode hidle hqueue hsends hturn => ?_⟩
  have hown : s.ownEligible = true := (ownEligible_iff s).mpr ⟨hqueue ▸ List.cons_ne_nil _ _, hsends⟩
  rw [exec_grant_of_quiet hquiet, grant_of_own ((linkFree_iff s).mpr ⟨hmode, hidle⟩) hqueue hown hturn,
    State.grantOwn, recordSent_eq, recordJoinSent_eq, startWatch_of_sendsOwn (by exact hsends)]
  rfl

/-! ### The end of a transmission (R134, R168) -/

theorem doRestart_eq (s : State) :
    s.doRestart =
      { s with
        time := { step := 0, phase := 0, isSet := false, trimUsed := 0, running := true }
        table := List.replicate 48 .free
        composer := .reset
        pulse := { s.pulse with running := true, pending := List.replicate 64 0, fresh := false, live := false }
        origins := List.replicate 16 .reset
        publications := []
        ring := { s.ring with sendQueue := [], recent := [], guardCount := 0 }
        roster := []
        controller :=
          { Controller.reset with
            state := .listen
            grace := s.config.circuitLimit
            listenCount := if s.due.listenEnd = true then 1 else 0 }
        responder := .reset
        counters := if s.composer.pass.isSome then s.counters.bump .passAborted else s.counters
        due := .none } := by
  unfold State.doRestart State.abortPass
  cases s.composer.pass <;> rfl

/-- Settles O20, by what the transmitter was sending. -/
theorem transmissionEnds : Obligations.TransmissionEnds := by
  unfold Obligations.TransmissionEnds
  intro s hquiet
  have hexec : exec .transmissionEnd s = .next s.endTransmission := by
    change Host.Outcome.next s.settle.endTransmission = _
    rw [settle_of_quiet s hquiet]
  rw [hexec]
  unfold State.endTransmission
  refine ⟨fun h => ?_, fun bytes h => ?_, fun kind q bytes h hends => ?_, fun q bytes h hpending hstrips => ?_⟩
  · rw [h]
  · rw [h]
    rfl
  · rw [h]
    cases kind with
    | answer =>
      have hstays : ∀ t : State, t.controller = s.controller → t.answerEnded q = t := by
        intro t ht
        unfold State.answerEnded
        rw [ht]
        split
        · next hpending =>
          have hstrips := (hends.resolve_left (not_not.mpr rfl)).resolve_left (not_not.mpr hpending)
          exact performRestart_of_not_strips t (by rw [ht]; exact hstrips)
        · rfl
      exact congrArg _ (hstays _ rfl)
    | _ => rfl
  · have hdue : s.due.listenEnd = false := congrArg Due.listenEnd hquiet
    rw [h]
    dsimp only
    rw [State.answerEnded, if_pos (by exact hpending), performRestart_of_strips _ (by exact hstrips), doRestart_eq,
      if_neg (by change ¬ s.due.listenEnd = true; rw [hdue]; exact Bool.false_ne_true)]
    rfl

end Sys2Proof.Machine
end

section
/-! PROOFS. The placing of the publication list (R101), and what placing and feeding keep. -/

namespace Sys2Proof.Machine

/-! ### Placing in order (R101) -/

/-- An entry goes on the ring when it waits and fewer entries wait before it than places are free. -/
theorem placeInOrder_eq_mapIdx (room : Nat) (l : List Publication) :
    (placeInOrder room l).1 =
      l.mapIdx fun i e =>
        if e.onRing = false ∧ (l.take i).countP (fun x => !x.onRing) < room then
          { e with onRing := true, sent := none }
        else e := by
  induction l generalizing room with
  | nil => rfl
  | cons e rest ih =>
    rw [List.mapIdx_cons]
    unfold placeInOrder
    cases he : e.onRing with
    | true => simp [ih, he]
    | false =>
      cases room with
      | zero =>
        simp
        exact List.ext_getElem (by simp) (by simp)
      | succ n => simp [ih, he]

/-- What the placing of entries counts (R101, R112). -/
def Counters.placed (c : Counters) (l : List Publication) : Counters :=
  l.foldl (fun c e => if e.attempt = 1 then c.bump (if e.replay then .replaysSent else .published) else c) c

theorem countPlaced_fold (l : List Publication) (s : State) :
    l.foldl State.countPlaced s = { s with counters := s.counters.placed l } := by
  induction l generalizing s with
  | nil => rfl
  | cons e rest ih =>
    rw [List.foldl_cons, ih, Counters.placed, Counters.placed, List.foldl_cons]
    unfold State.countPlaced
    split <;> rfl

theorem repeat_succ_eq {α : Type} (f : α → α) (n : Nat) (a : α) : Nat.repeat f n (f a) = f (Nat.repeat f n a) := by
  induction n with
  | zero => rfl
  | succ n ih => exact congrArg f ih

theorem Counters.placed_published (l : List Publication) (c : Counters) :
    (c.placed l).published = Nat.repeat bumpCount (l.countP fun e => e.attempt == 1 && e.replay == false) c.published := by
  induction l generalizing c with
  | nil => rfl
  | cons e rest ih =>
    change (Counters.placed (if e.attempt = 1 then c.bump _ else c) rest).published = _
    rw [ih, List.countP_cons]
    by_cases ha : e.attempt = 1
    · cases e.replay
      · simp [ha, Counters.bump, repeat_succ_eq, Nat.repeat]
      · simp [ha, Counters.bump]
    · simp [ha]

theorem Counters.placed_replaysSent (l : List Publication) (c : Counters) :
    (c.placed l).replaysSent =
      Nat.repeat bumpCount (l.countP fun e => e.attempt == 1 && e.replay == true) c.replaysSent := by
  induction l generalizing c with
  | nil => rfl
  | cons e rest ih =>
    change (Counters.placed (if e.attempt = 1 then c.bump _ else c) rest).replaysSent = _
    rw [ih, List.countP_cons]
    by_cases ha : e.attempt = 1
    · cases e.replay
      · simp [ha, Counters.bump]
      · simp [ha, Counters.bump, repeat_succ_eq, Nat.repeat]
    · simp [ha]

theorem Counters.placed_get (l : List Publication) {k : Counter} (hp : k ≠ .published) (hr : k ≠ .replaysSent)
    (c : Counters) : (c.placed l).get k = c.get k := by
  induction l generalizing c with
  | nil => rfl
  | cons e rest ih =>
    change (Counters.placed (if e.attempt = 1 then c.bump _ else c) rest).get k = _
    rw [ih]
    split_ifs
    · exact (get_bump c _ k).trans (if_neg hr)
    · exact (get_bump c _ k).trans (if_neg hp)
    · rfl

/-- The entries that a placing puts on the ring (R101). -/
def State.placedEntries (s : State) : List Publication :=
  (s.publications.filter fun e => !e.onRing).take (8 - s.ring.sendQueue.length)

theorem placePublications_of_silent {s : State} (h : s.controller.state.publishes = false) :
    s.placePublications = s :=
  if_neg (by rw [h]; exact Bool.false_ne_true)

theorem placePublications_of_publishes {s : State} (h : s.controller.state.publishes = true) :
    s.placePublications =
      { s with
        ring := { s.ring with sendQueue := s.ring.sendQueue ++ s.placedEntries.map Publication.message }
        publications := (placeInOrder (8 - s.ring.sendQueue.length) s.publications).1
        counters := s.counters.placed s.placedEntries } := by
  unfold State.placePublications State.placedEntries
  rw [if_pos h]
  dsimp only
  rw [countPlaced_fold, placeInOrder_placed]
  rfl

/-- Settles O21, by the list, the queue and the two counters that a placing changes. -/
theorem waitingEntriesArePlaced : Obligations.WaitingEntriesArePlaced := by
  unfold Obligations.WaitingEntriesArePlaced
  refine ⟨fun e => ?_, fun s => ⟨fun h => ?_, fun h => ?_⟩, fun s => ⟨placePublications_of_silent, fun h => ?_⟩⟩
  · unfold Publication.message
    cases e.kind <;> rfl
  · exact congrArg _ (if_neg (by rw [h]; exact Bool.false_ne_true))
  · exact congrArg _ (if_pos h)
  · rw [placePublications_of_publishes h, placeInOrder_eq_mapIdx]
    exact ⟨rfl, Counters.placed_published _ _, Counters.placed_replaysSent _ _,
      fun k hp hr => Counters.placed_get _ hp hr _⟩

end Sys2Proof.Machine
end

section
/-! PROOFS. The replay feed (R108) and the returns of publications (R103): what a feed makes of the list, of the origin
slots and of the ring port. -/

namespace Sys2Proof.Machine

/-! ### Creating and feeding (R100, R102, R108) -/

theorem createPublication_eq (s : State) (t : Nat) (kind : PubKind) (replay localRefusal : Bool)
    (payload : List Byte) :
    s.createPublication t kind replay localRefusal payload =
      { s with
        freeCount := s.freeCount + 1
        ring := { s.ring with nextSequence := s.ring.nextSequence + 1 }
        publications :=
          (s.publications.filter fun e => e.slot != t) ++
            [{ sequence := s.ring.nextSequence, kind := kind, slot := t, replay := replay,
               localRefusal := localRefusal, attempt := 1, onRing := false, sent := none,
               target := Config.ownTarget s.freeCount, payload := payload }] } := rfl

/-- An origin slot without its replay mark. -/
def OriginSlot.unmarked (o : OriginSlot) : OriginSlot := { o with replay := false }

theorem feedSlot_of_unmarked {s : State} {t : Nat} (h : (s.originSlot t).replay = false) : s.feedSlot t = s :=
  if_pos (by rw [h]; rfl)

theorem feedSlot_of_idle {s : State} {t : Nat} (h : (s.originSlot t).replay = true)
    (hidle : (s.originSlot t).state = .idle) : s.feedSlot t = s.setOriginSlot t (s.originSlot t).unmarked := by
  unfold State.feedSlot
  dsimp only
  generalize s.originSlot t = o at *
  obtain ⟨state, revision, start, stop, release, replay, outcome, counts⟩ := o
  obtain rfl : replay = true := h
  obtain rfl : state = .idle := hidle
  rfl

/-- The message that the feed creates for a slot of a valid template (R108). -/
def State.replayPayload (s : State) (t : Nat) (tpl : Template) : List Byte :=
  let o := s.originSlot t
  if o.state = .live then (cueOfTemplate s.ownId tpl o.revision (o.start.getD 0) o.stop).payload
  else releasePayload tpl.number o.revision (o.release.getD { step := 0, fade := 0 })

theorem feedSlot_of_active {s : State} {t : Nat} {tpl : Template} (h : (s.originSlot t).replay = true)
    (hactive : (s.originSlot t).state ≠ .idle) (htpl : s.config.template t = some tpl) :
    s.feedSlot t =
      if s.publicationRoom t = true then
        (s.setOriginSlot t (s.originSlot t).unmarked).createPublication t
          (if (s.originSlot t).state = .live then .cue else .release) true false (s.replayPayload t tpl)
      else s := by
  unfold State.feedSlot State.replayPayload
  dsimp only
  rw [htpl]
  generalize s.originSlot t = o at *
  obtain ⟨state, revision, start, stop, release, replay, outcome, counts⟩ := o
  obtain rfl : replay = true := h
  cases state with
  | idle => contradiction
  | live => rfl
  | releasing => rfl

/-- The feed at a slot does nothing, takes the mark off, or takes it off and creates a replay entry (R108). -/
theorem feedSlot_cases (s : State) (t : Nat) :
    s.feedSlot t = s ∨ s.feedSlot t = s.setOriginSlot t (s.originSlot t).unmarked ∨
      ∃ kind payload,
        s.feedSlot t =
          (s.setOriginSlot t (s.originSlot t).unmarked).createPublication t kind true false payload := by
  cases hmark : (s.originSlot t).replay with
  | false => exact Or.inl (feedSlot_of_unmarked hmark)
  | true =>
    by_cases hidle : (s.originSlot t).state = .idle
    · exact Or.inr (Or.inl (feedSlot_of_idle hmark hidle))
    · cases htpl : s.config.template t with
      | none =>
        left
        unfold State.feedSlot
        dsimp only
        rw [htpl]
        generalize s.originSlot t = o at *
        obtain ⟨state, revision, start, stop, release, replay, outcome, counts⟩ := o
        obtain rfl : replay = true := hmark
        cases state with
        | idle => contradiction
        | _ => rfl
      | some tpl =>
        rw [feedSlot_of_active hmark hidle htpl]
        split
        · exact Or.inr (Or.inr ⟨_, _, rfl⟩)
        · exact Or.inl rfl

theorem hasPublication_iff (s : State) (t : Nat) : s.hasPublication t = true ↔ ∃ e ∈ s.publications, e.slot = t := by
  simp [State.hasPublication]

theorem publicationRoom_iff (s : State) (t : Nat) :
    s.publicationRoom t = true ↔ s.publications.length < 8 ∨ ∃ e ∈ s.publications, e.slot = t := by
  rw [State.publicationRoom, Bool.or_eq_true, hasPublication_iff, decide_eq_true_eq, or_comm]

theorem OriginSlot.atBoundary_eq (o : OriginSlot) (n : StepNo) :
    let ended := (o.stop.map (stepAtOrAfter n)).getD false
    let faded := (o.release.map fun r => stepAtOrAfter n (r.step + r.fade.setWidth 32)).getD false
    o.atBoundary n =
      if (o.state = .live ∧ ended = true) ∨ (o.state = .releasing ∧ (ended = true ∨ faded = true)) then
        { o with state := .idle, replay := false }
      else o := by
  obtain ⟨state, revision, start, stop, release, replay, outcome, counts⟩ := o
  unfold OriginSlot.atBoundary FadeOut.over
  cases state <;> cases stop <;> cases release <;> simp

/-- Settles O45, by the branches of the feed at one slot, the order of the slots, and the branches of a slot's end. -/
theorem replayAndSlotEnd : Obligations.ReplayAndSlotEnd := by
  unfold Obligations.ReplayAndSlotEnd
  refine ⟨fun s t tpl htpl ht => ⟨fun hmark => ?_, fun hmark => ⟨fun hidle => ?_, fun hidle hfull hnone => ?_,
    fun hidle hroom => ?_⟩⟩, fun s => rfl, OriginSlot.atBoundary_eq⟩
  · exact feedSlot_of_unmarked hmark
  · exact feedSlot_of_idle hmark hidle
  · rw [feedSlot_of_active hmark hidle htpl, if_neg]
    rw [publicationRoom_iff]
    rintro (hlt | ⟨e, he, hslot⟩)
    · exact absurd hlt (Nat.not_lt.mpr hfull)
    · exact hnone e he hslot
  · rw [feedSlot_of_active hmark hidle htpl, if_pos ((publicationRoom_iff s t).mpr hroom)]
    rfl

end Sys2Proof.Machine
end

section
/-! PROOFS. Returns (R103, R161, R163, R165): what a return does to the publications and to the node state. -/

namespace Sys2Proof.Machine

/-! ### What a feed keeps (R101, R108) -/

/-- What taking a mark off, creating a replay entry and placing keep, a feed keeps. -/
theorem feedReplays_keeps {P : State → Prop} (hmark : ∀ u t, P u → P (u.setOriginSlot t (u.originSlot t).unmarked))
    (hcreate : ∀ u t kind payload, P u → P (u.createPublication t kind true false payload))
    (hplace : ∀ u, P u → P u.placePublications) {s : State} (hs : P s) : P s.feedReplays := by
  refine hplace _ (foldl_keeps_prop (fun u t hu => ?_) _ _ hs)
  rcases feedSlot_cases u t with h | h | ⟨kind, payload, h⟩ <;> rw [h]
  · exact hu
  · exact hmark u t hu
  · exact hcreate _ t kind payload (hmark u t hu)

/-- The ring port goes on, with more own messages in its queue. -/
def RingPort.queuesOn (r next : RingPort) : Prop :=
  next.receive = r.receive ∧ next.insertion = r.insertion ∧ next.recent = r.recent ∧ r.sendQueue <+: next.sendQueue

theorem placePublications_queuesOn {r : RingPort} {s : State} (h : r.queuesOn s.ring) :
    r.queuesOn s.placePublications.ring := by
  cases hp : s.controller.state.publishes with
  | false => rwa [placePublications_of_silent hp]
  | true =>
    rw [placePublications_of_publishes hp]
    obtain ⟨hreceive, hinsertion, hrecent, hqueue⟩ := h
    exact ⟨hreceive, hinsertion, hrecent, hqueue.trans (List.prefix_append _ _)⟩

theorem feedReplays_queuesOn {r : RingPort} {s : State} (h : r.queuesOn s.ring) : r.queuesOn s.feedReplays.ring :=
  feedReplays_keeps (P := fun u => r.queuesOn u.ring) (fun _ _ hu => hu) (fun _ _ _ _ hu => hu)
    (fun _ hu => placePublications_queuesOn hu) h

theorem publicationReturn_queuesOn (s : State) (m : Message) : s.ring.queuesOn (s.publicationReturn m).ring := by
  have hrefl : s.ring.queuesOn s.ring := ⟨rfl, rfl, rfl, List.prefix_rfl⟩
  unfold State.publicationReturn
  dsimp only
  split
  · exact hrefl
  · exact feedReplays_queuesOn hrefl

/-! ### Entries to node states (R159, R161, R165) -/

theorem enterRing_eq (s : State) :
    s.enterRing =
      { s with
        controller :=
          { s.controller with
            state := .ring, joinAttempt := 0, joinSequences := [], joinSent := none, joinWaiting := false }
        pulse := { s.pulse with live := true }
        origins := if s.controller.wasIsolated then s.origins.map OriginSlot.mark else s.origins
        due := { s.due with entries := true } } := by
  unfold State.enterRing
  dsimp only
  split <;> rfl

theorem enterAdmission_of_room {s : State} (h : s.ring.sendQueue.length < 8) :
    s.enterAdmission =
      { s with
        freeCount := s.freeCount + 1
        ring :=
          { s.ring with
            nextSequence := s.ring.nextSequence + 1
            sendQueue := s.ring.sendQueue ++
              [{ kind := .join, sequence := s.ring.nextSequence, target := Config.ownTarget s.freeCount,
                 payload := s.config.announcement }] }
        controller :=
          { s.controller with
            state := .admitting, joinAttempt := 1, joinSequences := [s.ring.nextSequence], joinSent := none,
            joinWaiting := false }
        counters := s.counters.bump .joinAttempts } :=
  placeJoin_of_room _ (by exact h)

theorem enterAdmission_of_full {s : State} (h : 8 ≤ s.ring.sendQueue.length) :
    s.enterAdmission =
      { s with
        controller :=
          { s.controller with
            state := .admitting, joinAttempt := 1, joinSequences := [], joinSent := none, joinWaiting := true } } :=
  placeJoin_of_full _ (by exact h)

theorem readmit_of_room {s : State} (h : s.ring.sendQueue.length < 8) :
    s.readmit =
      { s with
        freeCount := s.freeCount + 1
        composer := { s.composer with isolationEntry := none }
        ring :=
          { s.ring with
            nextSequence := s.ring.nextSequence + 1
            sendQueue := s.ring.sendQueue ++
              [{ kind := .join, sequence := s.ring.nextSequence, target := Config.ownTarget s.freeCount,
                 payload := s.config.announcement }] }
        controller :=
          { s.controller with
            state := .admitting, joinAttempt := 1, joinSequences := [s.ring.nextSequence], joinSent := none,
            joinWaiting := false }
        counters := s.counters.bump .joinAttempts } :=
  enterAdmission_of_room (by exact h)

theorem readmit_of_full {s : State} (h : 8 ≤ s.ring.sendQueue.length) :
    s.readmit =
      { s with
        composer := { s.composer with isolationEntry := none }
        controller :=
          { s.controller with
            state := .admitting, joinAttempt := 1, joinSequences := [], joinSent := none, joinWaiting := true } } :=
  enterAdmission_of_full (by exact h)

theorem monitorReturn_of_sendsOwn {s : State} (h : s.controller.state.sendsOwn = true) :
    s.monitorReturn = { s with controller := { s.controller with missCount := 0, watch := none } } :=
  if_pos h

theorem statPin_iff (s : State) : s.statPin = true ↔ s.controller.state = .ring ∧ s.resetHeld = false := by
  rw [State.statPin, Bool.and_eq_true, beq_iff_eq, Bool.not_eq_true']

/-- A return, once the monitor and the publication unit have taken it, is judged by the node state (R161, R165). -/
theorem exec_return {s : State} {b : List Byte} {m : Message} (hdone : s.momentDone) (hb : s.holds b)
    (hm : acceptance b = .accepted m) (horigin : m.origin = s.ownId) (hsends : s.controller.state.sendsOwn = true)
    (hrecent : m.sequence ∈ s.ring.recent) :
    exec .ownMessageStripped s =
      .next ((({ s with
        ring := { s.ring with receive := none }
        controller := { s.controller with missCount := 0, watch := none } } : State).publicationReturn m).controllerReturn
          m.sequence) := by
  have hmonitor := monitorReturn_of_sendsOwn (s := s.emptyReceive) (by exact hsends)
  rw [exec_ownMessageStripped hdone hb hm horigin (NodeState.strips_of_sendsOwn hsends),
    takeStripped_of_return (by exact hrecent), hmonitor]
  rfl

theorem controllerReturn_of_admitted {s : State} {q : Byte} (hstate : s.controller.state = .admitting)
    (hq : q ∈ s.controller.joinSequences) : s.controllerReturn q = s.enterRing := by
  unfold State.controllerReturn
  rw [hstate]
  exact if_pos (List.contains_iff_mem.mpr hq)

theorem controllerReturn_of_other {s : State} {q : Byte}
    (h : (s.controller.state = .admitting ∧ q ∉ s.controller.joinSequences) ∨ s.controller.state = .ring) :
    s.controllerReturn q = s := by
  unfold State.controllerReturn
  rcases h with ⟨hstate, hq⟩ | hstate <;> rw [hstate]
  exact if_neg fun hc => hq (List.contains_iff_mem.mp hc)

theorem controllerReturn_of_isolated {s : State} {q : Byte} (hstate : s.controller.state = .isolated) :
    s.controllerReturn q = s.readmit := by
  unfold State.controllerReturn
  rw [hstate]

/-- Settles O15, by the frame of a publication's return and the node states that judge it. -/
theorem returns : Obligations.Returns := by
  unfold Obligations.Returns
  refine ⟨statPin_iff, fun s b m hdone hb hm horigin hsends hrecent => ?_⟩
  rw [exec_return hdone hb hm horigin hsends hrecent]
  obtain ⟨hreceive, hinsertion, hrecents, hqueue⟩ := publicationReturn_queuesOn
    ({ s with
      ring := { s.ring with receive := none }
      controller := { s.controller with missCount := 0, watch := none } } : State) m
  obtain ⟨-, hreset, -, hconfig, htime, htable, hcomposer, hpulse, htrigger, hroster, hcontroller, -, hdue, -⟩ :=
    State.publicationReturn_frame
      ({ s with
        ring := { s.ring with receive := none }
        controller := { s.controller with missCount := 0, watch := none } } : State) m
  dsimp only at *
  generalize State.publicationReturn _ m = r at *
  refine ⟨⟨htable, hroster, htime, htrigger, hconfig, hcontroller, hcomposer, hpulse, hdue, hreceive, hinsertion,
    hrecents, hqueue⟩, fun hstate hq => ?_, fun hother => ?_, fun hstate hroom => ?_, fun hstate hfull => ?_⟩
  · refine ⟨_, rfl, ?_, fun hheld => ?_⟩
    · rw [controllerReturn_of_admitted (by rw [hcontroller]; exact hstate) (by rw [hcontroller]; exact hq), enterRing_eq,
        hcontroller, hpulse, hdue]
      rfl
    · rw [controllerReturn_of_admitted (by rw [hcontroller]; exact hstate) (by rw [hcontroller]; exact hq), enterRing_eq,
        statPin_iff]
      exact ⟨rfl, hreset.trans hheld⟩
  · exact congrArg _ (controllerReturn_of_other (by rw [hcontroller]; exact hother))
  · rw [controllerReturn_of_isolated (by rw [hcontroller]; exact hstate), readmit_of_room hroom, hcomposer, hcontroller,
      hconfig]
  · rw [controllerReturn_of_isolated (by rw [hcontroller]; exact hstate), readmit_of_full hfull, hcomposer, hcontroller]

end Sys2Proof.Machine
end

section
/-! PROOFS. Returns of publications (R103): the entry that closes, its slot's record, and what the feed leaves of the
others. -/

namespace Sys2Proof.Machine

/-! ### Origin slots under the feed (R108) -/

/-- Two origin tables that differ in replay marks alone. -/
def sameButMarks (a b : State) : Prop := ∀ i, (a.originSlot i).unmarked = (b.originSlot i).unmarked

theorem setOriginSlot_unmarked (s : State) (t : Nat) : sameButMarks (s.setOriginSlot t (s.originSlot t).unmarked) s := by
  intro i
  by_cases ht : t < s.origins.length
  · rw [originSlot_set s t i _ ht]
    split
    · next h => rw [h]; rfl
    · rfl
  · rw [State.setOriginSlot, List.set_eq_of_length_le (Nat.not_lt.mp ht)]
    rfl

theorem placePublications_originSlot (s : State) (i : Nat) : s.placePublications.originSlot i = s.originSlot i := by
  simp [State.originSlot]

theorem feedReplays_sameButMarks (s : State) : sameButMarks s.feedReplays s := by
  refine feedReplays_keeps (P := fun u => sameButMarks u s) (fun u t hu i => ?_) (fun _ _ _ _ hu => hu)
    (fun u hu i => ?_) fun _ => rfl
  · exact (setOriginSlot_unmarked u t i).trans (hu i)
  · rw [placePublications_originSlot]
    exact hu i

/-! ### The list under the feed (R101, R108) -/

/-- An entry that the feed has created: a replay at its first attempt that has not been sent. -/
def Publication.isFresh (e : Publication) : Prop := e.replay = true ∧ e.attempt = 1 ∧ e.sent = none

/-- The entry placed, or as it is where it was on the ring. -/
def Publication.placed (e : Publication) : Publication := { e with onRing := true, sent := none }

theorem mem_placeInOrder {room : Nat} {l : List Publication} {x : Publication} (hx : x ∈ l) :
    x ∈ (placeInOrder room l).1 ∨ x.placed ∈ (placeInOrder room l).1 := by
  rw [placeInOrder_eq_mapIdx]
  obtain ⟨i, hi, rfl⟩ := List.mem_iff_getElem.mp hx
  have hmem := List.getElem_mem (l := l.mapIdx fun i e =>
    if e.onRing = false ∧ (l.take i).countP (fun x => !x.onRing) < room then
      { e with onRing := true, sent := none }
    else e) (n := i) (by simpa using hi)
  rw [List.getElem_mapIdx] at hmem
  split at hmem
  · exact Or.inr hmem
  · exact Or.inl hmem

theorem mem_placePublications {s : State} {x : Publication} (hx : x ∈ s.publications) :
    x ∈ s.placePublications.publications ∨ x.placed ∈ s.placePublications.publications := by
  cases hp : s.controller.state.publishes with
  | false =>
    rw [placePublications_of_silent hp]
    exact Or.inl hx
  | true =>
    rw [placePublications_of_publishes hp]
    exact mem_placeInOrder hx

theorem mem_createPublication {s : State} {t : Nat} {kind : PubKind} {replay localRefusal : Bool} {payload : List Byte}
    {x : Publication} :
    x ∈ (s.createPublication t kind replay localRefusal payload).publications ↔
      (x ∈ s.publications ∧ x.slot ≠ t) ∨
        x = { sequence := s.ring.nextSequence, kind := kind, slot := t, replay := replay, localRefusal := localRefusal,
              attempt := 1, onRing := false, sent := none, target := Config.ownTarget s.freeCount,
              payload := payload } := by
  rw [createPublication_eq]
  simp

/-- Where every entry of a slot is fresh, a feed leaves it so. -/
theorem feedReplays_fresh {s : State} {k : Nat} (hs : ∀ x ∈ s.publications, x.slot = k → x.isFresh) :
    ∀ x ∈ s.feedReplays.publications, x.slot = k → x.isFresh := by
  refine feedReplays_keeps (P := fun u => ∀ x ∈ u.publications, x.slot = k → x.isFresh) (fun _ _ hu => hu)
    (fun u t kind payload hu x hx hslot => ?_) (fun u hu x hx hslot => ?_) hs
  · rcases mem_createPublication.mp hx with ⟨hmem, -⟩ | rfl
    · exact hu x hmem hslot
    · exact ⟨rfl, rfl, rfl⟩
  · rcases placePublications_mem u x hx with hmem | ⟨e, hmem, -, rfl⟩
    · exact hu x hmem hslot
    · obtain ⟨hreplay, hattempt, -⟩ := hu e hmem hslot
      exact ⟨hreplay, hattempt, rfl⟩

/-- What a feed leaves of an entry: the entry, the entry placed, or a fresh one of its slot. -/
theorem feedReplays_entry {s : State} {y : Publication} (hy : y ∈ s.publications) :
    ∃ x ∈ s.feedReplays.publications, x.slot = y.slot ∧ (x = y ∨ x = y.placed ∨ x.isFresh) := by
  refine feedReplays_keeps
    (P := fun u => ∃ x ∈ u.publications, x.slot = y.slot ∧ (x = y ∨ x = y.placed ∨ x.isFresh)) (fun _ _ hu => hu)
    (fun u t kind payload hu => ?_) (fun u hu => ?_) ⟨y, hy, rfl, Or.inl rfl⟩
  · obtain ⟨x, hx, hslot, hshape⟩ := hu
    by_cases ht : x.slot = t
    · exact ⟨_, mem_createPublication.mpr (Or.inr rfl), ht.symm.trans hslot, Or.inr (Or.inr ⟨rfl, rfl, rfl⟩)⟩
    · exact ⟨x, mem_createPublication.mpr (Or.inl ⟨hx, ht⟩), hslot, hshape⟩
  · obtain ⟨x, hx, hslot, hshape⟩ := hu
    rcases mem_placePublications hx with hmem | hmem
    · exact ⟨x, hmem, hslot, hshape⟩
    · refine ⟨x.placed, hmem, hslot, ?_⟩
      rcases hshape with rfl | rfl | ⟨hreplay, hattempt, -⟩
      · exact Or.inr (Or.inl rfl)
      · exact Or.inr (Or.inl rfl)
      · exact Or.inr (Or.inr ⟨hreplay, hattempt, rfl⟩)

theorem placePublications_get {k : Counter} (hp : k ≠ .published) (hr : k ≠ .replaysSent) (s : State) :
    s.placePublications.counters.get k = s.counters.get k := by
  cases h : s.controller.state.publishes with
  | false => rw [placePublications_of_silent h]
  | true =>
    rw [placePublications_of_publishes h]
    exact Counters.placed_get _ hp hr _

theorem feedReplays_get {k : Counter} (hp : k ≠ .published) (hr : k ≠ .replaysSent) (s : State) :
    s.feedReplays.counters.get k = s.counters.get k :=
  feedReplays_keeps (P := fun u => u.counters.get k = s.counters.get k) (fun _ _ hu => hu) (fun _ _ _ _ hu => hu)
    (fun u hu => (placePublications_get hp hr u).trans hu) rfl

/-! ### The return (R103) -/

/-- Where no slot has two entries, the entry found leaves the list as the entry of its slot. -/
theorem eraseP_eq_filter {p : Publication → Bool} {l : List Publication} {e : Publication}
    (hnodup : (l.map Publication.slot).Nodup) (he : l.find? p = some e) :
    l.eraseP p = l.filter fun x => x.slot != e.slot := by
  induction l with
  | nil => contradiction
  | cons y rest ih =>
    rw [List.map_cons, List.nodup_cons] at hnodup
    obtain ⟨hy, hrest⟩ := hnodup
    cases hp : p y with
    | true =>
      rw [List.find?_cons_of_pos hp, Option.some_inj] at he
      subst he
      rw [List.eraseP_cons_of_pos hp, List.filter_cons_of_neg (by simp)]
      refine (List.filter_eq_self.mpr fun x hx => ?_).symm
      rw [bne_iff_ne]
      exact fun hslot => hy (hslot ▸ List.mem_map_of_mem hx)
    | false =>
      rw [List.find?_cons_of_neg (by rw [hp]; exact Bool.false_ne_true)] at he
      have hne : y.slot ≠ e.slot := fun hslot => hy (hslot ▸ List.mem_map_of_mem (List.mem_of_find?_eq_some he))
      rw [List.eraseP_cons_of_neg (by rw [hp]; exact Bool.false_ne_true),
        List.filter_cons_of_pos (by rwa [bne_iff_ne]), ih hrest he]

theorem bumpCount_toNat (x : Count) : (bumpCount x).toNat = min 65535 (x.toNat + 1) := by
  unfold bumpCount
  split
  · next h => rw [h]; rfl
  · bv_omega

/-- Settles O16, by the entry that the return matches and by what the feed keeps. -/
theorem publicationReturns : Obligations.PublicationReturns := by
  unfold Obligations.PublicationReturns
  refine ⟨fun _ => rfl, fun s m => ⟨fun hnone => ?_, fun e he hslot hbounded => ?_⟩⟩
  · have hfind : s.publications.find? (fun e => e.sequence == m.sequence && some e.kind == pubKindOf m.kind) = none := by
      rw [List.find?_eq_none]
      intro x hx hmatch
      rw [Bool.and_eq_true, beq_iff_eq, beq_iff_eq] at hmatch
      exact hnone x hx ⟨hmatch.1, hmatch.2.symm⟩
    unfold State.publicationReturn
    dsimp only
    rw [hfind]
  · have hreturn : s.publicationReturn m =
        ({ s with
            publications := s.publications.filter fun x => x.slot != e.slot
            origins := s.origins.set e.slot ((s.originSlot e.slot).recordReturn e m.seen m.refused)
            counters := s.counters.bump (if m.refused = 0#6 then .delivered else .partially) } : State).feedReplays := by
      unfold State.publicationReturn
      dsimp only
      rw [he]
      dsimp only
      rw [eraseP_eq_filter hbounded.2.1 he]
      rfl
    have hslots : ∀ i, ({ s with
            publications := s.publications.filter fun x => x.slot != e.slot
            origins := s.origins.set e.slot ((s.originSlot e.slot).recordReturn e m.seen m.refused)
            counters := s.counters.bump (if m.refused = 0#6 then .delivered else .partially) } : State).originSlot i =
          if i = e.slot then (s.originSlot e.slot).recordReturn e m.seen m.refused else s.originSlot i :=
      fun i => originSlot_set s e.slot i _ hslot
    dsimp only
    rw [hreturn]
    refine ⟨rfl, ?_, fun i hi => ?_, fun x hx hxslot => ?_, fun y hy hyslot => ?_, ?_, by simp, by simp, by simp⟩
    · refine (feedReplays_sameButMarks _ e.slot).trans ?_
      rw [hslots, if_pos rfl]
      rfl
    · refine (feedReplays_sameButMarks _ i).trans ?_
      rw [hslots, if_neg hi]
      rfl
    · refine feedReplays_fresh (fun x hx hxslot => ?_) x hx hxslot
      rw [List.mem_filter, bne_iff_ne] at hx
      exact absurd hxslot hx.2
    · exact feedReplays_entry (List.mem_filter.mpr ⟨hy, bne_iff_ne.mpr hyslot⟩)
    · rw [feedReplays_get (by split <;> exact Counter.noConfusion) (by split <;> exact Counter.noConfusion), get_bump,
        if_pos rfl, bumpCount_toNat]

end Sys2Proof.Machine
end

section
/-! PROOFS. The rows of the node controller's waits (R158 to R160, R163): the JOIN, the watch, the end of LISTEN. -/

namespace Sys2Proof.Machine

/-! ### Step order (R6) -/

/-- Of a step and one that it is before, the first is not at or after the second. -/
theorem stepAtOrAfter_of_stepBefore {a b : StepNo} (h : stepBefore a b = true) : stepAtOrAfter a b = false := by
  unfold stepBefore stepAfter stepAtOrAfter at *
  rw [Bool.and_eq_true, decide_eq_true_eq, bne_iff_ne] at h
  obtain ⟨hlt, hne⟩ := h
  rw [decide_eq_false_iff_not]
  bv_omega

/-! ### JOIN (R159, R160) -/

theorem queueRoom_iff (s : State) : s.queueRoom = true ↔ s.ring.sendQueue.length < 8 := by
  rw [State.queueRoom, decide_eq_true_eq]

/-- Settles O22, by the three things that a waiting JOIN needs. -/
theorem waitingJoinIsPlaced : Obligations.WaitingJoinIsPlaced := by
  unfold Obligations.WaitingJoinIsPlaced
  refine ⟨fun _ => rfl, fun s hexpiry => ?_⟩
  have hjudged : s.takeJoinExpiry = s := if_neg (by rw [hexpiry]; exact Bool.false_ne_true)
  have hexec : s.due.joinPlace = true →
      exec .placeWaitingJoin s = .next ({ s with due := { s.due with joinPlace := false } } : State).placeWaitingJoin := by
    intro hdue
    change Host.Outcome.next s.takeJoinPlace = _
    unfold State.takeJoinPlace
    rw [if_pos hdue, hjudged]
    rfl
  refine ⟨fun hdue => congrArg _ (if_neg (by rw [hdue]; exact Bool.false_ne_true)),
    fun hdue => ⟨fun hstate hwaits hroom => ?_,
    fun hnot => ?_⟩⟩
  · rw [hexec hdue, State.placeWaitingJoin, if_pos ⟨hstate, hwaits, (queueRoom_iff s).mpr hroom⟩]
    exact congrArg _ (placeJoin_of_room _ hroom)
  · rw [hexec hdue, State.placeWaitingJoin, if_neg]
    rintro ⟨hstate, hwaits, hroom⟩
    rcases hnot with h | h | h
    · exact h hstate
    · exact Bool.noConfusion (h.symm.trans hwaits)
    · exact absurd ((queueRoom_iff s).mp hroom) (Nat.not_lt.mpr h)

theorem enterIsolated_eq (s : State) :
    s.enterIsolated =
      { s with
        due := { s.due with entries := true }
        controller :=
          { s.controller with
            state := .isolated, wasIsolated := true, joinAttempt := 0, joinSequences := [], joinSent := none,
            joinWaiting := false }
        counters := s.counters.bump .isolations
        composer := { s.composer with isolationEntry := some s.time.step }
        pulse := { s.pulse with live := true } } := rfl

theorem joinExpired_of_sent {s : State} {w : StepNo} (h : s.controller.joinSent = some w) :
    s.joinExpired = stepAtOrAfter s.time.step (w + BitVec.ofNat 32 s.config.circuitLimit) := by
  rw [State.joinExpired, h]

theorem joinExpired_of_none {s : State} (h : s.controller.joinSent = none) : s.joinExpired = false := by
  rw [State.joinExpired, h]

/-- Settles O23, by the judgement of the JOIN wait and by the attempts that are left. -/
theorem joinExpires : Obligations.JoinExpires := by
  unfold Obligations.JoinExpires
  intro s
  have hexec : s.due.joinExpiry = true →
      exec .joinExpiry s = .next ({ s with due := { s.due with joinExpiry := false } } : State).judgeJoin :=
    fun hdue => congrArg _ (if_pos hdue)
  refine ⟨fun hdue => congrArg _ (if_neg (by rw [hdue]; exact Bool.false_ne_true)), fun hdue => ⟨fun hnot => ?_,
    fun w hstate hsent hpast => ?_⟩⟩
  · rw [hexec hdue, State.judgeJoin, if_neg]
    rintro ⟨hstate, hexpired⟩
    change s.joinExpired = true at hexpired
    rcases hnot with h | h | ⟨w, hw, hbefore⟩
    · exact h hstate
    · rw [joinExpired_of_none h] at hexpired
      contradiction
    · rw [joinExpired_of_sent hw, stepAtOrAfter_of_stepBefore hbefore] at hexpired
      contradiction
  · have hexpired : s.joinExpired = true := by rw [joinExpired_of_sent hsent, hpast]
    rw [hexec hdue, State.judgeJoin, if_pos ⟨hstate, hexpired⟩]
    refine ⟨fun hfew hroom => ?_, fun hfew hfull => ?_, fun hlast => ?_⟩
    · rw [if_pos hfew]
      exact congrArg _ (placeJoin_of_room _ hroom)
    · rw [if_pos hfew]
      exact congrArg _ (placeJoin_of_full _ hfull)
    · rw [if_neg (Nat.not_lt.mpr hlast), enterIsolated_eq]

/-! ### The watch (R163, R164) -/

theorem watchExpired_of_set {s : State} {w : StepNo} (h : s.controller.watch = some w) :
    s.watchExpired = stepAtOrAfter s.time.step (w + BitVec.ofNat 32 s.config.circuitLimit) := by
  rw [State.watchExpired, h]

theorem watchExpired_of_none {s : State} (h : s.controller.watch = none) : s.watchExpired = false := by
  rw [State.watchExpired, h]

/-- Settles O24, by the expiry of the watch and by the misses before it. -/
theorem watchExpires : Obligations.WatchExpires := by
  unfold Obligations.WatchExpires
  intro s
  have hexec : s.due.watch = true →
      exec .watchExpiry s = .next ({ s with due := { s.due with watch := false } } : State).expireWatch :=
    fun hdue => congrArg _ (if_pos hdue)
  refine ⟨fun hdue => congrArg _ (if_neg (by rw [hdue]; exact Bool.false_ne_true)), fun hdue => ⟨fun hnot => ?_,
    fun w hsends hwatch hpast => ?_⟩⟩
  · rw [hexec hdue, State.expireWatch, if_neg]
    rw [Bool.and_eq_true]
    rintro ⟨hsends, hexpired⟩
    change s.watchExpired = true at hexpired
    rcases hnot with h | h | ⟨w, hw, hbefore⟩
    · exact Bool.noConfusion (h.symm.trans hsends)
    · rw [watchExpired_of_none h] at hexpired
      contradiction
    · rw [watchExpired_of_set hw, stepAtOrAfter_of_stepBefore hbefore] at hexpired
      contradiction
  · have hexpired : s.watchExpired = true := by rw [watchExpired_of_set hwatch, hpast]
    rw [hexec hdue, State.expireWatch, if_pos (by rw [Bool.and_eq_true]; exact ⟨hsends, hexpired⟩)]
    dsimp only
    refine ⟨fun hfirst => ?_, fun hring hmiss => ?_⟩
    · rw [if_neg]
      · rfl
      · rintro ⟨hring, hmiss⟩
        change min 2 (s.controller.missCount + 1) = 2 at hmiss
        have hzero := hfirst.resolve_left (not_not.mpr hring)
        omega
    · have htwo : min 2 (s.controller.missCount + 1) = 2 := Nat.min_eq_left (by omega)
      rw [htwo, if_pos ⟨hring, rfl⟩, enterIsolated_eq]
      rfl

/-! ### The end of LISTEN (R158) -/

/-- Settles O25, by the listen count and the room for the JOIN. -/
theorem listenEnds : Obligations.ListenEnds := by
  unfold Obligations.ListenEnds
  intro s
  refine ⟨fun hdue => congrArg _ (if_neg (by rw [hdue]; exact Bool.false_ne_true)), fun hdue => ⟨fun hnot => ?_,
    fun hstate hcount => ?_⟩⟩
  · have htake : s.takeListenEnd = s.withDue { s.due with listenEnd := false } := by
      unfold State.takeListenEnd
      rw [if_pos hdue, if_neg]
      rintro ⟨hstate, hcount⟩
      exact hnot.elim (fun h => h hstate) (Nat.not_lt.mpr hcount)
    exact congrArg _ htake
  · have htake : s.takeListenEnd = (s.withDue { s.due with listenEnd := false, listenEnded := true }).endListen := by
      unfold State.takeListenEnd
      rw [if_pos hdue, if_pos ⟨hstate, hcount⟩]
    exact ⟨fun hroom => congrArg _ (htake.trans (enterAdmission_of_room (by exact hroom))),
      fun hfull => congrArg _ (htake.trans (enterAdmission_of_full (by exact hfull)))⟩

end Sys2Proof.Machine
end

section
/-! PROOFS. The rows of the step boundary (R24, R104, R146, R147, R174, R176): tombstones, peers, beacons, timeouts. -/

namespace Sys2Proof.Machine

/-! ### Tombstones and peers (R24, R146, R147) -/

/-- Settles O29. The match of the statement is the model's, branch by branch. -/
theorem oldTombstonesAreFreed : Obligations.OldTombstonesAreFreed := by
  unfold Obligations.OldTombstonesAreFreed
  refine fun s => ⟨fun hdue => congrArg _ (if_neg (by rw [hdue]; exact Bool.false_ne_true)), fun hdue => ?_⟩
  have htake : s.takeTombstones = { s with
      due := { s.due with tombstones := false }
      table := s.table.map (freeOldTombstone s.time.step) } := if_pos hdue
  change Host.Outcome.next s.takeTombstones = _
  rw [htake]
  congr 3
  funext slot
  cases slot <;> rfl

theorem limitInterval_eq (p : Peer) (own : Nat) : p.limitInterval own = (p.interval.map BitVec.toNat).getD own := by
  unfold Peer.limitInterval
  cases p.interval <;> rfl

/-- An entry at its silent limit and short of its gone limit is SILENT afterwards (R146). -/
theorem markSilent_peer (p : Peer) (own : Nat) :
    (if p.fallsSilent own then { p with silent := true } else p) =
      if 3 * p.limitInterval own ≤ p.silence ∧ p.silence < 8 * p.limitInterval own then { p with silent := true }
      else p := by
  unfold Peer.fallsSilent Peer.gone
  by_cases hlimit : 3 * p.limitInterval own ≤ p.silence ∧ p.silence < 8 * p.limitInterval own
  · rw [if_pos hlimit]
    obtain ⟨id, hop, range, stepLength, interval, firstHeard, lastHeard, silence, silent⟩ := p
    cases silent with
    | true => rfl
    | false => simp [hlimit.1, hlimit.2]
  · rw [if_neg hlimit, if_neg]
    simp only [Bool.and_eq_true, decide_eq_true_eq, Bool.not_eq_true', decide_eq_false_iff_not]
    omega

/-- The orphan drops of several origins, on one slot (R22). -/
def dropSlots (ids : List NodeId) (now : StepNo) : Slot → Slot
  | .live e => if e.cue.orphan = .drop ∧ e.cue.origin ∈ ids then e.entomb now else .live e
  | other => other

theorem dropSlots_cons (o : NodeId) (ids : List NodeId) (now : StepNo) (x : Slot) :
    dropSlots ids now (dropSlot o now x) = dropSlots (o :: ids) now x := by
  cases x with
  | free => rfl
  | tombstone t => rfl
  | live e =>
    unfold dropSlot
    dsimp only
    split
    · next h => simp [dropSlots, LiveEntry.entomb, h]
    · next h =>
      unfold dropSlots
      simp only [List.mem_cons]
      congr 1
      rw [eq_iff_iff]
      tauto

theorem dropOrphans_fold (ids : List NodeId) (s : State) :
    ids.foldl State.dropOrphans s = { s with table := s.table.map (dropSlots ids s.time.step) } := by
  induction ids generalizing s with
  | nil =>
    have hid : dropSlots [] s.time.step = id := by
      funext x
      cases x <;> simp [dropSlots]
    rw [hid, List.map_id]
    rfl
  | cons o rest ih =>
    have htable : (s.dropOrphans o).table.map (dropSlots rest s.time.step) =
        s.table.map (dropSlots (o :: rest) s.time.step) := by
      change (s.table.map (dropSlot o s.time.step)).map _ = _
      rw [List.map_map]
      exact List.map_congr_left fun x _ => dropSlots_cons o rest s.time.step x
    rw [List.foldl_cons, ih]
    change ({ s with table := (s.dropOrphans o).table.map (dropSlots rest s.time.step) } : State) = _
    rw [htable]

/-- Settles O26, by the limits of one entry and the orphan drops of those that go. -/
theorem peersFallSilentAndGo : Obligations.PeersFallSilentAndGo := by
  unfold Obligations.PeersFallSilentAndGo
  intro s
  simp only [← limitInterval_eq]
  refine ⟨fun hdue => congrArg _ (if_neg (by rw [hdue]; exact Bool.false_ne_true)), fun hdue => ?_,
    fun htombs hdue => ?_, fun htombs hdue => ?_⟩
  · have htake : s.takePeerSilent = { s with
        due := { s.due with peerSilent := false }
        roster := s.roster.map fun p =>
          if p.fallsSilent s.config.beaconInterval then { p with silent := true } else p } := if_pos hdue
    change Host.Outcome.next s.takePeerSilent = _
    rw [htake]
    simp only [markSilent_peer]
  · have hstays : s.takeTombstones = s := if_neg (by rw [htombs]; exact Bool.false_ne_true)
    change Host.Outcome.next s.takeTombstones.takePeerGone = _
    rw [hstays]
    exact congrArg _ (if_neg (by rw [hdue]; exact Bool.false_ne_true))
  · have hstays : s.takeTombstones = s := if_neg (by rw [htombs]; exact Bool.false_ne_true)
    change Host.Outcome.next s.takeTombstones.takePeerGone = _
    rw [hstays, State.takePeerGone, if_pos hdue, State.removeGone, dropOrphans_fold]
    have hroster : (s.roster.filter fun p => !p.gone s.config.beaconInterval) =
        s.roster.filter fun p => decide (p.silence < 8 * p.limitInterval s.config.beaconInterval) :=
      List.filter_congr fun p _ => by simp only [Peer.gone, ← decide_not, Nat.not_le]
    change Host.Outcome.next ({ s with
      due := { s.due with peerGone := false }
      roster := s.roster.filter fun p => !p.gone s.config.beaconInterval
      table := s.table.map (dropSlots ((s.roster.filter fun p => p.gone s.config.beaconInterval).map Peer.id)
        s.time.step) } : State) = _
    rw [hroster]
    congr 3
    funext slot
    cases slot with
    | free => rfl
    | tombstone t => rfl
    | live e =>
      have hgone : e.cue.origin ∈ (s.roster.filter fun p => p.gone s.config.beaconInterval).map Peer.id ↔
          ∃ p ∈ s.roster, p.id = e.cue.origin ∧ 8 * p.limitInterval s.config.beaconInterval ≤ p.silence := by
        simp only [List.mem_map, List.mem_filter, Peer.gone, decide_eq_true_eq, and_assoc]
        exact exists_congr fun p => by tauto
      simp only [dropSlots, hgone]
      rfl

/-! ### Beacons (R174 to R177) -/

theorem beaconFlags_eq (late refusal overflow : Bool) :
    (0#5 ++ boolBit late ++ boolBit refusal ++ boolBit overflow : Byte) =
      (if late then 4#8 else 0#8) ||| (if refusal then 2#8 else 0#8) ||| (if overflow then 1#8 else 0#8) := by
  cases late <;> cases refusal <;> cases overflow <;> rfl

theorem code_of_publishes {n : NodeState} (h : n.publishes = true) : n.code = if n = .ring then 4#8 else 5#8 := by
  cases n <;> first | rfl | contradiction

theorem sendBeacon_of_full {s : State} (h : 8 ≤ s.ring.sendQueue.length) :
    s.sendBeacon =
      { s with
        responder := { s.responder with countdown := s.config.beaconInterval }
        counters := s.counters.bump .beaconSkipped } := by
  unfold State.sendBeacon
  rw [if_neg]
  · rfl
  · rw [queueRoom_iff]
    exact Nat.not_lt.mpr h

theorem sendBeacon_of_room {s : State} (h : s.ring.sendQueue.length < 8) :
    s.sendBeacon =
      { s with
        freeCount := s.freeCount + 1
        responder :=
          { countdown := s.config.beaconInterval, lateSeen := false, refusalSeen := false, overflowSeen := false }
        ring :=
          { s.ring with
            nextSequence := s.ring.nextSequence + 1
            sendQueue := s.ring.sendQueue ++
              [{ kind := .beacon, sequence := s.ring.nextSequence, target := Config.ownTarget s.freeCount,
                 payload := s.beaconPayload }] } } := by
  unfold State.sendBeacon
  rw [if_pos ((queueRoom_iff s).mpr h)]
  rfl

/-- Settles O27, by the node state and the room in the queue. -/
theorem beaconsArePlacedOrSkipped : Obligations.BeaconsArePlacedOrSkipped := by
  unfold Obligations.BeaconsArePlacedOrSkipped
  refine ⟨fun table => ⟨?_, ?_⟩, fun s htombs => ?_⟩
  · unfold liveCount
    congr 1
    funext slot
    cases slot <;> rfl
  · unfold tombstoneCount
    congr 1
    funext slot
    cases slot <;> rfl
  have hstays : s.takeTombstones = s := if_neg (by rw [htombs]; exact Bool.false_ne_true)
  have hexec : exec .beaconDue s = .next s.takeBeacon := by
    change Host.Outcome.next s.takeTombstones.takeBeacon = _
    rw [hstays]
  rw [hexec]
  refine ⟨fun hdue => congrArg _ (if_neg (by rw [hdue]; exact Bool.false_ne_true)), fun hdue => ?_⟩
  unfold State.takeBeacon
  rw [if_pos hdue]
  dsimp only
  refine ⟨fun hstate => ?_, fun hstate hfull => ?_, fun hstate hroom => ?_⟩
  · rw [if_neg (by rw [hstate]; exact Bool.false_ne_true)]
    rfl
  · rw [if_pos hstate, sendBeacon_of_full (by exact hfull)]
    rfl
  · rw [if_pos hstate, sendBeacon_of_room (by exact hroom), ← beaconFlags_eq, ← code_of_publishes hstate]
    rfl

/-! ### Timeouts (R104) -/

theorem timedOut_eq (e : Publication) (limit : Nat) (n : StepNo) :
    e.timedOut limit n =
      (e.onRing && (e.sent.map fun w => stepAtOrAfter n (w + BitVec.ofNat 32 limit)).getD false) := by
  unfold Publication.timedOut
  cases e.sent <;> rfl

/-- The record of a failed publication in its slot (R104). -/
def OriginSlot.failed (o : OriginSlot) : OriginSlot := { o with outcome := .failed, counts := none }

theorem recordFailed_fold (l : List Publication) (s : State) :
    l.foldl State.recordFailed s =
      { s with
        origins := s.origins.mapIdx fun i o => if ∃ e ∈ l, e.slot = i then o.failed else o
        counters := l.foldl (fun c _ => c.bump .failed) s.counters } := by
  induction l generalizing s with
  | nil =>
    have hid : (s.origins.mapIdx fun i o => if ∃ e ∈ ([] : List Publication), e.slot = i then o.failed else o) =
        s.origins := List.ext_getElem (by simp) (by simp)
    rw [hid]
    rfl
  | cons e rest ih =>
    have horigins : ((s.recordFailed e).origins.mapIdx fun i o => if ∃ x ∈ rest, x.slot = i then o.failed else o) =
        s.origins.mapIdx fun i o => if ∃ x ∈ e :: rest, x.slot = i then o.failed else o := by
      change ((s.origins.set e.slot (s.originSlot e.slot).failed).mapIdx _) = _
      refine List.ext_getElem (by simp) fun i hi hi' => ?_
      have hlt : i < s.origins.length := by simpa using hi'
      simp only [List.getElem_mapIdx, List.getElem_set, List.mem_cons, exists_eq_or_imp]
      by_cases hslot : e.slot = i
      · subst hslot
        have horigin : s.originSlot e.slot = s.origins[e.slot] := by
          simp [State.originSlot, hlt]
        simp [horigin, OriginSlot.failed]
      · simp [hslot]
    rw [List.foldl_cons, ih, horigins]
    rfl

/-- Settles O28, by the entries that are late and those of them that have had their third attempt. -/
theorem publicationsTimeOut : Obligations.PublicationsTimeOut := by
  unfold Obligations.PublicationsTimeOut
  intro s
  simp only [← timedOut_eq]
  refine ⟨fun hdue => congrArg _ (if_neg (by rw [hdue]; exact Bool.false_ne_true)), fun hdue => ?_⟩
  change Host.Outcome.next s.takePublications = _
  rw [State.takePublications, if_pos hdue, State.timeOutPublications, recordFailed_fold]
  rfl

/-! ### Finishing what is due (log 5) -/

theorem takeTombstones_of_done {s : State} (h : s.due.tombstones = false) : s.takeTombstones = s :=
  if_neg (by rw [h]; exact Bool.false_ne_true)

theorem takeTombstones_idem (s : State) : s.takeTombstones.takeTombstones = s.takeTombstones :=
  takeTombstones_of_done (by rw [takeTombstones_due])

theorem takeJoinExpiry_idem (s : State) : s.takeJoinExpiry.takeJoinExpiry = s.takeJoinExpiry := by
  obtain ⟨b, hdue⟩ := takeJoinExpiry_due s
  exact if_neg (by rw [hdue]; exact Bool.false_ne_true)

theorem takeJoinPlace_takeJoinExpiry (s : State) (h : s.due.joinPlace = true) :
    s.takeJoinExpiry.takeJoinPlace = s.takeJoinPlace := by
  obtain ⟨b, hdue⟩ := takeJoinExpiry_due s
  have hplace : s.takeJoinExpiry.due.joinPlace = true := by
    rw [hdue]
    exact h
  unfold State.takeJoinPlace
  rw [if_pos h, if_pos hplace, takeJoinExpiry_idem]

/-- A row that reports an END finishes first what it needs finished. -/
theorem exec_of_settled {row : Instr} (hrow : rowEndsReception row = true) {s t : State}
    (h : s.settleBefore row = t.settleBefore row) : exec row s = exec row t := by
  obtain ⟨take, hexec, -⟩ := exec_of_rowEndsReception hrow
  rw [hexec, hexec]
  unfold State.endReception
  rw [h]

/-- The rows of the boundary finish the tombstones first, and a later row finds them finished (R29). -/
theorem settleBoundary_rows (s : State) :
    s.settleBoundary =
      s.takeTombstones.takePeerSilent.takeTombstones.takePeerGone.takePublications.takeJoinExpiry.takeWatch.takeStrayAges.takeTombstones.takeBeacon := by
  have hgone : s.takeTombstones.takePeerSilent.takeTombstones = s.takeTombstones.takePeerSilent :=
    takeTombstones_of_done (by rw [takePeerSilent_due, takeTombstones_due])
  have hbeacon : ∀ u : State, u.due.tombstones = false →
      u.takePeerGone.takePublications.takeJoinExpiry.takeWatch.takeStrayAges.takeTombstones =
        u.takePeerGone.takePublications.takeJoinExpiry.takeWatch.takeStrayAges := by
    intro u hu
    obtain ⟨b, hexpiry⟩ := takeJoinExpiry_due u.takePeerGone.takePublications
    obtain ⟨c, hwatch⟩ := takeWatch_due u.takePeerGone.takePublications.takeJoinExpiry
    refine takeTombstones_of_done ?_
    rw [takeStrayAges_due, hwatch, hexpiry, takePublications_due, takePeerGone_due]
    exact hu
  rw [hgone, hbeacon _ (by rw [takePeerSilent_due, takeTombstones_due])]
  rfl

/-- Settles O30: finishing is the run of the rows, and what is finished already is finished at once. -/
theorem dueWorkIsFinishedFirst : Obligations.DueWorkIsFinishedFirst := by
  unfold Obligations.DueWorkIsFinishedFirst
  intro s
  obtain ⟨hboundary, hlisten, hended⟩ := settleBoundary_done s
  have hsettled : s.settle.settle = s.settle := settle_of_quiet _ (settle_quiet s)
  have hmoment : s.settleMoment.settleMoment = s.settleMoment := settleMoment_of_done _ (settleMoment_done s)
  dsimp only
  refine ⟨settleBoundary_rows s, congrArg State.takeListenEnd (settleBoundary_rows s), ?_, settle_quiet s,
    settleMoment_done s, hboundary, hlisten, hended, fun partTick => ?_, ?_, fun levels between => ?_, fun hpending => ?_,
    ?_, fun row hrow hrestart => ?_, ?_, fun row hrow => ?_, fun hdue => ?_⟩
  · have hquiet : ({ s.settleMoment.takeJoinPlace.takeEntries with due := s.settle.due } : State) =
        { s.settleMoment.takeJoinPlace.takeEntries with due := .none } := by rw [settle_quiet s]
    exact hquiet.trans (congrArg (fun u : State => ({ u.takeListenEnd.takeJoinPlace.takeEntries with due := .none } : State))
      (settleBoundary_rows s))
  · change Host.Outcome.next (s.settle.grant partTick) = .next (s.settle.settle.grant partTick)
    rw [hsettled]
  · change Host.Outcome.next s.settle.endTransmission = .next s.settle.settle.endTransmission
    rw [hsettled]
  · change execTriggerSample levels between s = execTriggerSample levels between s.settle
    unfold execTriggerSample
    rw [hsettled]
  · have hempty : s.settle.pending = [] := by simp [hpending]
    unfold step
    rw [hpending, hempty]
    unfold State.tick
    rw [hsettled]
  · change execOrdinaryAdvance s = execOrdinaryAdvance s.settleMoment
    unfold execOrdinaryAdvance
    rw [hmoment]
  · refine exec_of_settled hrow ?_
    rw [State.settleBefore, State.settleBefore, if_neg hrestart, if_neg hrestart, hmoment]
  · refine exec_of_settled rfl ?_
    rw [State.settleBefore, State.settleBefore, if_pos rfl, if_pos rfl, settleBoundary_of_done _ hboundary]
  · simp only [List.mem_cons, List.not_mem_nil, or_false] at hrow
    rcases hrow with rfl | rfl | rfl
    · change Host.Outcome.next s.takeTombstones.completePass = .next s.takeTombstones.takeTombstones.completePass
      rw [takeTombstones_idem]
    · change Host.Outcome.next s.takeTombstones.takePeerGone = .next s.takeTombstones.takeTombstones.takePeerGone
      rw [takeTombstones_idem]
    · change Host.Outcome.next s.takeTombstones.takeBeacon = .next s.takeTombstones.takeTombstones.takeBeacon
      rw [takeTombstones_idem]
  · exact congrArg Host.Outcome.next (takeJoinPlace_takeJoinExpiry s hdue).symm

end Sys2Proof.Machine
end

section
/-! PROOFS. Pass starts, boundaries, pass completions and the PWM counter (R28 to R30, R40, R42, R48, R67, R68, R72). -/

namespace Sys2Proof.Machine

/-! ### Pass start and boundary (R29, R30, R40, R48) -/

theorem failsafeDecision_eq (s : State) (n : StepNo) :
    s.failsafeDecision n =
      (decide (s.config.failsafePolicy = .failsafeLevel) &&
        (s.composer.isolationEntry.map fun w =>
          stepAtOrAfter n (w + BitVec.ofNat 32 s.config.isolationHold)).getD false) := by
  unfold State.failsafeDecision State.pastHold
  cases s.composer.isolationEntry <;> rfl

/-- What a pass start counts (R30, R40). -/
def State.passCounts (s : State) (failsafe : Bool) : Counters :=
  let aborted := if s.composer.pass.isSome then s.counters.bump .passAborted else s.counters
  if failsafe then aborted.bump .failsafeSteps else aborted

theorem startPass_eq (s : State) (n : StepNo) :
    s.startPass n =
      { s with
        table := s.table.map (slotAtPass n)
        composer :=
          { s.composer with
            pass := some
              { target := n, progress := 0, failsafe := s.failsafeDecision n,
                view := liveEntries (s.table.map (slotAtPass n)), age := 0 } }
        due := { s.due with tombstones := true }
        counters := s.passCounts (s.failsafeDecision n) } := by
  have habort : s.abortPass = { s with
      composer := { s.composer with pass := none }
      counters := if s.composer.pass.isSome then s.counters.bump .passAborted else s.counters } := by
    unfold State.abortPass
    cases hpass : s.composer.pass with
    | none =>
      have hcomposer : { s.composer with pass := none } = s.composer := by rw [← hpass]
      rw [hcomposer]
      rfl
    | some p => rfl
  have hdecision : ∀ l, (s.abortPass.withTable l).failsafeDecision n = s.failsafeDecision n := by
    intro l
    rw [habort]
    rfl
  unfold State.startPass State.passCounts
  dsimp only
  rw [hdecision, habort]
  cases s.failsafeDecision n <;> rfl

/-- What every boundary does besides the pass start, on the node after it (R48, R109, R146). -/
def State.countBoundary (s : State) : State :=
  ({ s with
      roster := s.roster.map fun p => { p with silence := p.silence + 1 }
      origins := if s.time.isSet then s.origins.map fun o => o.atBoundary s.time.step else s.origins
      controller := s.controller.atBoundary
      responder := s.responder.atBoundary s.controller.state } : State).markDue

theorem boundary_eq (s : State) :
    s.boundary =
      (if s.time.isSet && s.controller.state.takesPart then s.startPass s.time.step else s).countBoundary := by
  have htime : (if s.time.isSet && s.controller.state.takesPart then s.startPass s.time.step else s).time = s.time := by
    split
    · rw [startPass_eq]
    · rfl
  unfold State.boundary
  dsimp only
  generalize (if s.time.isSet && s.controller.state.takesPart then s.startPass s.time.step else s) = passed at *
  unfold State.countBoundary
  rw [← htime]
  split <;> rfl

theorem boundary_of_pass {s : State} (hset : s.time.isSet = true) (hpart : s.controller.state.takesPart = true) :
    s.boundary = (s.startPass s.time.step).countBoundary := by
  rw [boundary_eq, hset, hpart]
  rfl

theorem boundary_of_no_pass {s : State} (h : s.time.isSet = false ∨ s.controller.state.takesPart = false) :
    s.boundary = s.countBoundary := by
  have hstarts : ¬ (s.time.isSet && s.controller.state.takesPart) = true := by
    rw [Bool.and_eq_true]
    rintro ⟨hset, hpart⟩
    exact h.elim (fun hs => Bool.noConfusion (hs.symm.trans hset)) fun hs => Bool.noConfusion (hs.symm.trans hpart)
  rw [boundary_eq, if_neg hstarts]

/-- Settles O32, by the pass start where there is one and by what a boundary does besides. -/
theorem boundaryStartsAPass : Obligations.BoundaryStartsAPass := by
  unfold Obligations.BoundaryStartsAPass
  refine ⟨fun table => ?_, fun s => ⟨fun hset hpart => ?_, fun h => ?_, ?_⟩⟩
  · unfold liveEntries
    congr 1
    funext slot
    cases slot <;> rfl
  · rw [← failsafeDecision_eq, boundary_of_pass hset hpart, startPass_eq]
    exact ⟨rfl, rfl, fun _ => rfl, rfl, rfl, rfl⟩
  · rw [boundary_of_no_pass h]
    exact ⟨rfl, rfl, rfl⟩
  · rw [boundary_eq, startPass_eq]
    split <;> rfl

/-! ### The completion of a pass (R42, R71) -/

theorem completePass_of_none {s : State} (h : s.composer.pass = none) : s.completePass = s := by
  unfold State.completePass
  rw [h]

theorem completePass_of_some {s : State} {p : Pass} (h : s.composer.pass = some p) :
    s.completePass =
      { s with
        composer := { s.composer with pass := none, record := p.results s.config }
        pulse := { s.pulse with pending := (p.results s.config).map Composed.duty, fresh := true }
        counters := if s.pulse.fresh then s.counters.bump .setSuperseded else s.counters } := by
  unfold State.completePass
  rw [h]
  dsimp only
  split <;> rfl

/-- Settles O34. -/
theorem passCompletes : Obligations.PassCompletes := by
  unfold Obligations.PassCompletes
  intro s htombs
  have hexec : exec .passComplete s = .next s.completePass := by
    change Host.Outcome.next s.takeTombstones.completePass = _
    rw [takeTombstones_of_done htombs]
  rw [hexec]
  exact ⟨fun hpass => congrArg _ (completePass_of_none hpass), fun p hpass =>
    ⟨rfl, rfl, congrArg _ (completePass_of_some hpass)⟩⟩

/-! ### The cycle start (R72, R73) -/

theorem takeCycleStart_of_due {s : State} (hrun : s.pulse.running = true) (hdue : s.pulse.cycleDue = true) :
    s.takeCycleStart = { s with pulse := s.pulse.takeCycleStart } := by
  unfold State.takeCycleStart
  rw [hrun, hdue]
  rfl

theorem takeCycleStart_of_not_due {s : State} (h : (s.pulse.running && s.pulse.cycleDue) = false) :
    s.takeCycleStart = s :=
  if_neg (by rw [h]; exact Bool.false_ne_true)

theorem PulseUnit.takeCycleStart_of_live {p : PulseUnit} (h : p.live = true) :
    p.takeCycleStart =
      { p with
        active := if p.fresh = true ∨ p.zeroed = true then p.pending else p.active
        fresh := false, zeroed := false, cycleDue := false } := by
  unfold PulseUnit.takeCycleStart
  rw [if_pos h]
  simp only [Bool.or_eq_true]

theorem PulseUnit.takeCycleStart_of_dark {p : PulseUnit} (h : p.live = false) :
    p.takeCycleStart =
      { p with active := List.replicate 64 0, fresh := false, zeroed := true, cycleDue := false } :=
  if_neg (by rw [h]; exact Bool.false_ne_true)

theorem PulseUnit.output_of_zero {p : PulseUnit} {i : Nat} (h : p.active.getD i 0 = 0) (c : NodeConfig) :
    p.output c i = false := by
  unfold PulseUnit.output
  dsimp only
  rw [h]
  cases p.running <;> rfl

/-- Settles O37, by LIVE and DARK. -/
theorem cycleStarts : Obligations.CycleStarts := by
  unfold Obligations.CycleStarts
  refine fun s => ⟨fun h => ?_, fun hrun hdue hlive => ?_, fun hrun hdue hdark => ?_⟩
  · refine congrArg _ (takeCycleStart_of_not_due ?_)
    rcases h with h | h
    · rw [h, Bool.false_and]
    · rw [h, Bool.and_false]
  · change Host.Outcome.next s.takeCycleStart = _
    rw [takeCycleStart_of_due hrun hdue, PulseUnit.takeCycleStart_of_live hlive]
  · have hexec : exec .cycleStart s = .next { s with pulse := { s.pulse with
        active := List.replicate 64 0, fresh := false, zeroed := true, cycleDue := false } } := by
      change Host.Outcome.next s.takeCycleStart = _
      rw [takeCycleStart_of_due hrun hdue, PulseUnit.takeCycleStart_of_dark hdark]
    refine ⟨hexec, fun t count up i ht => ?_⟩
    rw [hexec] at ht
    cases ht
    exact PulseUnit.output_of_zero
      (List.getD_eq_getElem?_getD.trans (List.getElem?_getD_replicate_default_eq 0 64 i)) _

/-! ### The counter (R66 to R68) -/

/-- A wrap is met in k + 1 counts when it is met in the first k or in the last. -/
theorem wrap_succ (due : Bool) {m a k : Nat} (h : a + k + 1 < 2 * m) :
    (due || decide (m ≤ a + (k + 1))) = (due || decide (m ≤ a + k) || decide (m ≤ (a + k) % m + 1)) := by
  rw [Bool.or_assoc, ← Bool.decide_or]
  congr 2
  rw [eq_iff_iff]
  have hmod : (a + k) % m = if a + k < m then a + k else a + k - m := by
    split
    · next hlt => exact Nat.mod_eq_of_lt hlt
    · next hge => rw [Nat.mod_eq_sub_mod (by omega), Nat.mod_eq_of_lt (by omega)]
  rw [hmod]
  split <;> omega

theorem advance_edge_succ {p : PulseUnit} {k : Nat} (hcounter : p.counter < 4096) (hk : k < 4096) :
    p.advance .edge (k + 1) = (p.advance .edge k).advance .edge 1 := by
  have hwrap := wrap_succ (due := p.cycleDue) (m := 4096) (a := p.counter) (k := k) (by omega)
  have hplace : (p.counter + (k + 1)) % 4096 = ((p.counter + k) % 4096 + 1) % 4096 := by omega
  unfold PulseUnit.advance
  dsimp only
  rw [hwrap, hplace]

theorem advance_edge_one {p : PulseUnit} (hcounter : p.counter < 4096) (hup : p.up = true) :
    p.advance .edge 1 =
      if p.counter = 4095 then { p with counter := 0, cycleDue := true } else { p with counter := p.counter + 1 } := by
  unfold PulseUnit.advance
  dsimp only
  split
  · next h => rw [h, ← hup]; simp [hup]
  · next h =>
    have hno : ¬ 4096 ≤ p.counter + 1 := by omega
    rw [Nat.mod_eq_of_lt (by omega), decide_eq_false hno, Bool.or_false, ← hup]

/-- The place of a counter that has moved is the place moved (R68). -/
theorem centrePlace_advance (p : PulseUnit) (k : Nat) :
    (p.advance .centre k).centrePlace = (p.centrePlace + k) % 8190 := by
  have hlt := Nat.mod_lt (p.centrePlace + k) (y := 8190) (by omega)
  rw [PulseUnit.centrePlace]
  unfold PulseUnit.advance
  dsimp only
  by_cases hup : (p.centrePlace + k) % 8190 < 4096
  · simp only [hup, decide_true, if_true]
  · simp only [hup, decide_false, if_false, Bool.false_eq_true]
    omega

theorem advance_centre_succ {p : PulseUnit} {k : Nat} (hplace : p.centrePlace < 8190) (hk : k < 4096) :
    p.advance .centre (k + 1) = (p.advance .centre k).advance .centre 1 := by
  have hwrap := wrap_succ (due := p.cycleDue) (m := 8190) (a := p.centrePlace) (k := k) (by omega)
  have hmod : (p.centrePlace + (k + 1)) % 8190 = ((p.centrePlace + k) % 8190 + 1) % 8190 := by omega
  have hone : ∀ q : PulseUnit, q.advance .centre 1 =
      { q with
        counter := if (q.centrePlace + 1) % 8190 < 4096 then (q.centrePlace + 1) % 8190
          else 8190 - (q.centrePlace + 1) % 8190
        up := decide ((q.centrePlace + 1) % 8190 < 4096)
        cycleDue := q.cycleDue || decide (8190 ≤ q.centrePlace + 1) } := fun _ => rfl
  rw [hone, centrePlace_advance, ← hmod]
  unfold PulseUnit.advance
  dsimp only
  rw [hwrap]

/-- One count of the CENTRE pattern: up to 4095, back from 4094, and a cycle start at 0 (R68). -/
theorem advance_centre_one {p : PulseUnit} (hcounter : p.counter < 4096)
    (hdown : p.up = false → 1 ≤ p.counter ∧ p.counter ≤ 4094) :
    p.advance .centre 1 =
      if p.up then
        if p.counter = 4095 then { p with counter := 4094, up := false } else { p with counter := p.counter + 1 }
      else if p.counter = 1 then { p with counter := 0, up := true, cycleDue := true }
      else { p with counter := p.counter - 1 } := by
  have hadvance : ∀ place, p.centrePlace + 1 = place → p.advance .centre 1 =
      { p with
        counter := if place % 8190 < 4096 then place % 8190 else 8190 - place % 8190
        up := decide (place % 8190 < 4096)
        cycleDue := p.cycleDue || decide (8190 ≤ place) } := by
    rintro _ rfl
    rfl
  cases hup : p.up with
  | true =>
    have hplace : p.centrePlace + 1 = p.counter + 1 := by rw [PulseUnit.centrePlace, if_pos hup]
    have hmod : (p.counter + 1) % 8190 = p.counter + 1 := Nat.mod_eq_of_lt (by omega)
    rw [hadvance _ hplace, hmod, decide_eq_false (p := 8190 ≤ p.counter + 1) (by omega), Bool.or_false, if_pos rfl]
    split
    · next hlt => rw [if_neg (by omega), decide_eq_true hlt, ← hup]
    · next hge =>
      rw [if_pos (by omega), decide_eq_false hge]
      congr 1
      omega
  | false =>
    obtain ⟨hlow, hhigh⟩ := hdown hup
    have hplace : p.centrePlace + 1 = 8191 - p.counter := by
      rw [PulseUnit.centrePlace, if_neg (by rw [hup]; exact Bool.false_ne_true)]
      omega
    rw [hadvance _ hplace, if_neg Bool.false_ne_true]
    by_cases hone : p.counter = 1
    · simp [hone]
    · have hmod : (8191 - p.counter) % 8190 = 8191 - p.counter := Nat.mod_eq_of_lt (by omega)
      rw [if_neg hone, hmod, if_neg (by omega), decide_eq_false (by omega), decide_eq_false (by omega), Bool.or_false,
        ← hup]
      congr 1
      omega

theorem centrePlace_lt {p : PulseUnit} (hcounter : p.counter < 4096) (hdown : p.up = false → 1 ≤ p.counter) :
    p.centrePlace < 8190 := by
  unfold PulseUnit.centrePlace
  cases hup : p.up with
  | true => exact Nat.lt_trans hcounter (by omega)
  | false =>
    have hlow := hdown hup
    change 8190 - p.counter < 8190
    omega

/-- Settles O39, by the place in the cycle that a count moves. -/
theorem counterMovesByCounts : Obligations.CounterMovesByCounts := by
  unfold Obligations.CounterMovesByCounts
  refine ⟨fun c => ⟨fun h => ?_, fun h => ?_, fun h => ?_, fun h => ?_⟩, fun p k hcounter hk => ⟨fun hup =>
    ⟨advance_edge_succ hcounter hk, advance_edge_one hcounter hup⟩, fun hdown => ?_⟩⟩
  · rw [NodeConfig.countsPerTick, h]
  · rw [NodeConfig.countsPerTick, h]
  · rw [NodeConfig.countsPerTick, h]
  · rw [NodeConfig.countsPerTick, h]
  · exact ⟨advance_centre_succ (centrePlace_lt hcounter fun h => (hdown h).1) hk, advance_centre_one hcounter hdown⟩

end Sys2Proof.Machine
end

section
/-! PROOFS. The counts of a PWM cycle at which an output is high (R66, R69, R70). -/

namespace Sys2Proof.Machine

theorem countP_range_lt (m k : Nat) : (List.range m).countP (fun n => decide (n < k)) = min m k := by
  induction m with
  | zero => simp
  | succ m ih =>
    rw [List.range_succ, List.countP_append, ih, List.countP_singleton]
    split
    · next h =>
      have := of_decide_eq_true h
      omega
    · next h =>
      have : ¬ m < k := by simpa using h
      omega

theorem countP_range_ge (m k : Nat) : (List.range m).countP (fun n => decide (k ≤ n)) = m - k := by
  induction m with
  | zero => simp
  | succ m ih =>
    rw [List.range_succ, List.countP_append, ih, List.countP_singleton]
    split
    · next h =>
      have := of_decide_eq_true h
      omega
    · next h =>
      have : ¬ k ≤ m := by simpa using h
      omega

/-- Of the counts of a round of d + r, as many lie less than u after count d as u says (R69). -/
theorem countP_round {u d r : Nat} (hu : u ≤ d + r) :
    (List.range (d + r)).countP (fun n => decide ((n + (d + r) - d) % (d + r) < u)) = u := by
  rw [List.range_add, List.countP_append, List.countP_map]
  have hlow : (List.range d).countP (fun n => decide ((n + (d + r) - d) % (d + r) < u)) =
      (List.range d).countP fun n => decide (n < u - r) := by
    refine List.countP_congr fun n hn => ?_
    have hlt := List.mem_range.mp hn
    rw [show n + (d + r) - d = n + r by omega, Nat.mod_eq_of_lt (by omega), decide_eq_true_eq, decide_eq_true_eq]
    omega
  have hhigh : (List.range r).countP ((fun n => decide ((n + (d + r) - d) % (d + r) < u)) ∘ (d + ·)) =
      (List.range r).countP fun n => decide (n < u) := by
    refine List.countP_congr fun n hn => ?_
    have hlt := List.mem_range.mp hn
    rw [Function.comp, show d + n + (d + r) - d = n + (d + r) by omega, Nat.add_mod_right, Nat.mod_eq_of_lt (by omega)]
  rw [hlow, hhigh, countP_range_lt, countP_range_lt]
  omega

/-- The output of a running unit by the duty of the offset (R69, R70). -/
theorem PulseUnit.output_of_running {p : PulseUnit} (hrun : p.running = true) (c : NodeConfig) (i : Nat) :
    (p.active.getD i 0 = 4095 → p.output c i = true) ∧
      (1 ≤ p.active.getD i 0 → p.active.getD i 0 ≤ 4094 →
        (c.pwmMode = .edge →
          p.output c i = decide ((p.counter + 4096 - i * c.stagger) % 4096 < p.active.getD i 0)) ∧
        (c.pwmMode = .centre → p.output c i = decide (4095 - p.active.getD i 0 ≤ p.counter))) := by
  have hnot : ¬ (!p.running) = true := by rw [hrun]; exact Bool.false_ne_true
  unfold PulseUnit.output
  dsimp only
  rw [if_neg hnot]
  refine ⟨fun h => ?_, fun hlow hhigh => ?_⟩
  · rw [h]
    rfl
  · rw [if_neg (by omega), if_neg (by omega)]
    exact ⟨fun hmode => by rw [hmode], fun hmode => by rw [hmode]⟩

/-- Settles O38, by the duty of the offset and the counting pattern. -/
theorem highCountsOfACycle : Obligations.HighCountsOfACycle := by
  unfold Obligations.HighCountsOfACycle
  refine ⟨fun p c i h => PulseUnit.output_of_halted h c i, fun p c i hrun hi hstagger => ?_⟩
  have hshift : i * c.stagger ≤ 63 * 63 := Nat.mul_le_mul (by omega) hstagger
  have hhigh : ∀ count : Nat, _ := fun count =>
    PulseUnit.output_of_running (p := { p with counter := count }) hrun c i
  dsimp only at hhigh ⊢
  refine ⟨fun hzero count => PulseUnit.output_of_zero (by exact hzero) c, fun hfull count => (hhigh count).1 hfull,
    fun hlow hbelow => ⟨fun count hcount => ⟨fun hmode => ?_, fun hmode => ?_⟩, fun hmode => ?_, fun hmode => ?_⟩⟩
  · rw [((hhigh count).2 hlow hbelow).1 hmode, decide_eq_true_eq]
    omega
  · rw [((hhigh count).2 hlow hbelow).2 hmode, decide_eq_true_eq]
  · obtain ⟨r, hr⟩ : ∃ r, i * c.stagger + r = 4096 := ⟨4096 - i * c.stagger, by omega⟩
    have hround := countP_round (u := p.active.getD i 0) (d := i * c.stagger) (r := r) (by omega)
    rw [hr] at hround
    refine (List.countP_congr fun count _ => ?_).trans hround
    rw [((hhigh count).2 hlow hbelow).1 hmode]
  · have hup : ∀ m, (List.range m).countP (fun count => ({ p with counter := count } : PulseUnit).output c i) =
        m - (4095 - p.active.getD i 0) := by
      intro m
      rw [← countP_range_ge]
      exact List.countP_congr fun count _ => by rw [((hhigh count).2 hlow hbelow).2 hmode]
    have hdown : ((List.range 4094).map (· + 1)).countP
        (fun count => ({ p with counter := count } : PulseUnit).output c i) = 4094 - (4094 - p.active.getD i 0) := by
      rw [← countP_range_ge, List.countP_map]
      refine List.countP_congr fun count _ => ?_
      rw [Function.comp, ((hhigh _).2 hlow hbelow).2 hmode, decide_eq_true_eq, decide_eq_true_eq]
      omega
    rw [hup, hdown]
    omega

end Sys2Proof.Machine
end

section
/-! PROOFS. Composition (R32 to R38): the order in which entries apply, their values, and the range of the result. -/

namespace Sys2Proof.Machine

/-! ### The application order (R33) -/

/-- Entry a stands no later than entry b for a pass at step n: by priority, then the earlier start, then origin, then cue
number. -/
def LiveEntry.noLater (n : StepNo) (a b : LiveEntry) : Prop :=
  a.cue.priority.toNat < b.cue.priority.toNat ∨ a.cue.priority = b.cue.priority ∧
    ((n - b.cue.start).toNat < (n - a.cue.start).toNat ∨ a.cue.start = b.cue.start ∧
      (a.cue.origin.toNat < b.cue.origin.toNat ∨ a.cue.origin = b.cue.origin ∧
        a.cue.number.toNat ≤ b.cue.number.toNat))

theorem start_eq_iff (n a b : StepNo) : a = b ↔ (n - a).toNat = (n - b).toNat := by
  refine ⟨fun h => h ▸ rfl, fun h => ?_⟩
  bv_omega

/-- The order on the four numbers that it is made of. -/
theorem LiveEntry.noLater_iff (n : StepNo) (a b : LiveEntry) :
    a.noLater n b ↔
      a.cue.priority.toNat < b.cue.priority.toNat ∨ a.cue.priority.toNat = b.cue.priority.toNat ∧
        ((n - b.cue.start).toNat < (n - a.cue.start).toNat ∨ (n - a.cue.start).toNat = (n - b.cue.start).toNat ∧
          (a.cue.origin.toNat < b.cue.origin.toNat ∨ a.cue.origin.toNat = b.cue.origin.toNat ∧
            a.cue.number.toNat ≤ b.cue.number.toNat)) := by
  rw [LiveEntry.noLater, start_eq_iff n a.cue.start, BitVec.toNat_eq (x := a.cue.priority),
    BitVec.toNat_eq (x := a.cue.origin)]

theorem LiveEntry.noLater_trans {n : StepNo} {a b c : LiveEntry} (hab : a.noLater n b) (hbc : b.noLater n c) :
    a.noLater n c := by
  rw [LiveEntry.noLater_iff] at *
  omega

theorem stepBefore_iff {n a b : StepNo} (ha : stepAtOrAfter n a = true) (hb : stepAtOrAfter n b = true) :
    stepBefore a b = true ↔ (n - b).toNat < (n - a).toNat := by
  unfold stepBefore stepAfter stepAtOrAfter at *
  rw [Bool.and_eq_true, decide_eq_true_eq, bne_iff_ne] at *
  bv_omega

/-- Of two entries whose starts are not after n, the one applied before the other stands no later, and else the other
does. -/
theorem LiveEntry.noLater_of_appliedBefore {n : StepNo} {a b : LiveEntry} (ha : stepAtOrAfter n a.cue.start = true)
    (hb : stepAtOrAfter n b.cue.start = true) :
    (a.appliedBefore b = true → a.noLater n b) ∧ (a.appliedBefore b = false → b.noLater n a) := by
  have hstart := stepBefore_iff ha hb
  rw [LiveEntry.noLater_iff, LiveEntry.noLater_iff]
  unfold LiveEntry.appliedBefore
  simp only [ne_eq, BitVec.toNat_eq (x := a.cue.priority), start_eq_iff n a.cue.start,
    BitVec.toNat_eq (x := a.cue.origin)]
  split_ifs with hpriority hstarts horigin
  · simp only [decide_eq_true_eq, decide_eq_false_iff_not]
    omega
  · simp only [decide_eq_true_eq, decide_eq_false_iff_not]
    omega
  · rw [← Bool.not_eq_true, hstart]
    omega
  · simp only [decide_eq_true_eq, decide_eq_false_iff_not]
    omega

theorem insertApplied_perm (e : LiveEntry) (l : List LiveEntry) : (insertApplied e l).Perm (e :: l) := by
  induction l with
  | nil => exact List.Perm.refl _
  | cons x rest ih =>
    unfold insertApplied
    split
    · exact List.Perm.refl _
    · exact (ih.cons x).trans (List.Perm.swap e x rest)

theorem applicationOrder_perm (l : List LiveEntry) : (applicationOrder l).Perm l := by
  induction l with
  | nil => exact List.Perm.refl _
  | cons e rest ih => exact (insertApplied_perm e _).trans (ih.cons e)

theorem insertApplied_ordered {n : StepNo} {e : LiveEntry} {l : List LiveEntry}
    (he : stepAtOrAfter n e.cue.start = true) (hl : ∀ x ∈ l, stepAtOrAfter n x.cue.start = true)
    (h : l.Pairwise (LiveEntry.noLater n)) : (insertApplied e l).Pairwise (LiveEntry.noLater n) := by
  induction l with
  | nil => exact List.pairwise_singleton _ _
  | cons x rest ih =>
    obtain ⟨hx, hrest⟩ := List.pairwise_cons.mp h
    obtain ⟨hbefore, hafter⟩ := LiveEntry.noLater_of_appliedBefore he (hl x (List.mem_cons_self ..))
    unfold insertApplied
    split
    · next happlied =>
      refine List.pairwise_cons.mpr ⟨fun y hy => ?_, h⟩
      rcases List.mem_cons.mp hy with rfl | hy
      · exact hbefore happlied
      · exact LiveEntry.noLater_trans (hbefore happlied) (hx y hy)
    · next happlied =>
      refine List.pairwise_cons.mpr ⟨fun y hy => ?_, ih (fun y hy => hl y (List.mem_cons_of_mem x hy)) hrest⟩
      rcases List.mem_cons.mp ((insertApplied_perm e rest).mem_iff.mp hy) with rfl | hy
      · exact hafter (Bool.eq_false_iff.mpr happlied)
      · exact hx y hy

theorem applicationOrder_ordered {n : StepNo} {l : List LiveEntry}
    (hl : ∀ x ∈ l, stepAtOrAfter n x.cue.start = true) : (applicationOrder l).Pairwise (LiveEntry.noLater n) := by
  induction l with
  | nil => exact List.Pairwise.nil
  | cons e rest ih =>
    refine insertApplied_ordered (hl e (List.mem_cons_self ..)) (fun x hx => ?_)
      (ih fun x hx => hl x (List.mem_cons_of_mem e hx))
    exact hl x (List.mem_cons_of_mem e ((applicationOrder_perm rest).mem_iff.mp hx))

/-! ### Values (R35 to R38) -/

theorem movedToward_le {l0 l1 m : Nat} (h0 : l0 ≤ 4095) (h1 : l1 ≤ 4095) (hm : m ≤ levelDistance l0 l1) :
    movedToward l0 l1 m ≤ 4095 := by
  unfold movedToward levelDistance at *
  split_ifs at * <;> omega

theorem LiveEntry.covers_eq (e : LiveEntry) (c : Nat) :
    e.covers c = decide (e.phase ≠ .pending ∧ e.cue.first.toNat ≤ c ∧ c ≤ e.cue.last.toNat) := by
  rw [Bool.eq_iff_iff]
  simp [LiveEntry.covers, and_assoc]

theorem Cue.unfaded_le {q : Cue} {c : Nat} (hc : c ≤ q.last.toNat) (n : StepNo) : q.unfaded n c ≤ 4095 := by
  have h0 : q.l0.toNat ≤ 4095 := Nat.le_of_lt_succ q.l0.isLt
  have h1 : q.l1.toNat ≤ 4095 := Nat.le_of_lt_succ q.l1.isLt
  unfold Cue.unfaded
  dsimp only
  split
  · exact h0
  · split
    · exact h1
    · next hk =>
      exact movedToward_le h0 h1 (Nat.div_le_of_le_mul (by rw [Nat.mul_comm]; exact Nat.mul_le_mul_right _ (by omega)))
  · split
    · exact h0
    · exact h1
  · split
    · exact h0
    · exact movedToward_le h0 h1 (Nat.div_le_of_le_mul (by rw [Nat.mul_comm]; exact Nat.mul_le_mul_right _ (by omega)))

theorem LiveEntry.value_le {e : LiveEntry} {c : Nat} (hc : c ≤ e.cue.last.toNat) (n : StepNo) : e.value n c ≤ 4095 := by
  have hu := Cue.unfaded_le hc n
  unfold LiveEntry.value
  dsimp only
  split
  · refine (Nat.div_le_of_le_mul ?_).trans hu
    rw [Nat.mul_comm]
    exact Nat.mul_le_mul_right _ (Nat.sub_le _ _)
  · exact hu
  · exact hu
  · exact hu

/-! ### Blending (R32 to R34) -/

theorem Blend.apply_le (b : Blend) {result v : Nat} (hresult : result ≤ 4095) (hv : v ≤ 4095) :
    b.apply result v ≤ 4095 := by
  cases b with
  | replace => exact hv
  | highest => exact max_le hresult hv
  | scale => exact (Nat.div_le_of_le_mul (Nat.mul_comm .. ▸ Nat.mul_le_mul_right _ hv)).trans hresult

theorem composedLevel_eq (view : List LiveEntry) (n : StepNo) (c : Nat) :
    composedLevel view n c =
      (applicationOrder (view.filter fun e =>
        decide (e.phase ≠ .pending ∧ e.cue.first.toNat ≤ c ∧ c ≤ e.cue.last.toNat))).foldl
        (fun result e => e.cue.blend.apply result (e.value n c)) 0 := by
  unfold composedLevel
  simp only [LiveEntry.covers_eq]

theorem foldl_apply_le {l : List LiveEntry} {n : StepNo} {c : Nat} (hl : ∀ e ∈ l, c ≤ e.cue.last.toNat) {result : Nat}
    (h : result ≤ 4095) : l.foldl (fun result e => e.cue.blend.apply result (e.value n c)) result ≤ 4095 := by
  induction l generalizing result with
  | nil => exact h
  | cons e rest ih =>
    exact ih (fun x hx => hl x (List.mem_cons_of_mem e hx))
      (Blend.apply_le _ h (LiveEntry.value_le (hl e (List.mem_cons_self ..)) n))

theorem composedLevel_le (view : List LiveEntry) (n : StepNo) (c : Nat) : composedLevel view n c ≤ 4095 := by
  rw [composedLevel_eq]
  refine foldl_apply_le (fun e he => ?_) (Nat.zero_le _)
  have hmem := (List.mem_filter.mp ((applicationOrder_perm _).mem_iff.mp he)).2
  exact (of_decide_eq_true hmem).2.2

theorem composedLevel_of_uncovered {view : List LiveEntry} {c : Nat}
    (h : ∀ e ∈ view, ¬ (e.phase ≠ .pending ∧ e.cue.first.toNat ≤ c ∧ c ≤ e.cue.last.toNat)) (n : StepNo) :
    composedLevel view n c = 0 := by
  have hnone : (view.filter fun e =>
      decide (e.phase ≠ .pending ∧ e.cue.first.toNat ≤ c ∧ c ≤ e.cue.last.toNat)) = [] :=
    List.filter_eq_nil_iff.mpr fun e he => by rw [decide_eq_true_eq]; exact h e he
  rw [composedLevel_eq, hnone]
  rfl

theorem Pass.composed_le {c : NodeConfig} (h : c.failsafeLevel ≤ 4095) (p : Pass) (i : Nat) :
    (p.composed c i).level ≤ 4095 ∧ (p.composed c i).duty ≤ 4095 := by
  have hlevel : p.level c i ≤ 4095 := by
    unfold Pass.level
    split
    · exact h
    · exact composedLevel_le _ _ _
  by_cases hi : i < c.channelCount
  · rw [Pass.composed_of_owned hi]
    exact ⟨hlevel, (c.outputCurve.duty_le_level hlevel).trans hlevel⟩
  · rw [Pass.composed_of_not_owned (Nat.not_lt.mp hi)]
    exact ⟨Nat.zero_le _, Nat.zero_le _⟩

/-! ### The level functions (R35 to R38) -/

theorem movedToward_eq (l0 l1 m d : Nat) :
    (l0 ≤ l1 → movedToward l0 l1 (levelDistance l0 l1 * m / d) = l0 + (l1 - l0) * m / d) ∧
      (l1 < l0 → movedToward l0 l1 (levelDistance l0 l1 * m / d) = l0 - (l0 - l1) * m / d) := by
  unfold movedToward levelDistance
  refine ⟨fun h => ?_, fun h => ?_⟩
  · rw [if_pos h, if_pos h]
  · rw [if_neg (Nat.not_le.mpr h), if_neg (Nat.not_le.mpr h)]

theorem Cue.unfaded_of_ramp {q : Cue} (h : q.function = .ramp) (n : StepNo) (c : Nat) :
    q.unfaded n c =
      if q.d.toNat ≤ (n - q.start).toNat then q.l1.toNat
      else movedToward q.l0.toNat q.l1.toNat
        (levelDistance q.l0.toNat q.l1.toNat * (n - q.start).toNat / q.d.toNat) := by
  rw [Cue.unfaded, h]

theorem Cue.unfaded_of_gradient {q : Cue} (h : q.function = .gradient) (n : StepNo) (c : Nat) :
    q.unfaded n c =
      if q.first = q.last then q.l0.toNat
      else movedToward q.l0.toNat q.l1.toNat
        (levelDistance q.l0.toNat q.l1.toNat * (c - q.first.toNat) / (q.last.toNat - q.first.toNat)) := by
  rw [Cue.unfaded, h]

/-- Settles O35, part by part: the order, the range of the result, and each level function. -/
theorem compositionOrderAndRange : Obligations.CompositionOrderAndRange := by
  unfold Obligations.CompositionOrderAndRange
  refine ⟨fun n l hl => ⟨applicationOrder_perm l, applicationOrder_ordered hl⟩, composedLevel_le,
    fun view n c h => composedLevel_of_uncovered h n, fun p c h x hx => ?_, composedLevel_eq,
    fun _ _ => ⟨rfl, rfl, rfl⟩, fun q n c => ⟨fun h => ?_, fun h => ⟨fun hk => ?_, fun hk => ?_⟩, fun h => ?_,
      fun h => ⟨fun heq => ?_, fun hlt => ?_⟩⟩, fun e n c => ⟨fun h => ?_, fun r h hr => ?_⟩⟩
  · obtain ⟨i, -, rfl⟩ := List.mem_map.mp hx
    exact Pass.composed_le h p i
  · rw [Cue.unfaded, h]
  · rw [Cue.unfaded_of_ramp h, if_pos hk]
  · rw [Cue.unfaded_of_ramp h, if_neg (Nat.not_le.mpr hk)]
    exact movedToward_eq _ _ _ _
  · rw [Cue.unfaded, h]
  · rw [Cue.unfaded_of_gradient h, if_pos (BitVec.eq_of_toNat_eq heq)]
  · rw [Cue.unfaded_of_gradient h, if_neg fun heq => absurd hlt (by rw [heq]; exact Nat.lt_irrefl _)]
    exact movedToward_eq _ _ _ _
  · rw [LiveEntry.value, h]
  · rw [LiveEntry.value, h, hr]

end Sys2Proof.Machine
end

section
/-! PROOFS. One tick (log 4) and the ordinary advance (R47): the clocks' moments first, then every count. -/

namespace Sys2Proof.Machine

/-! ### The counts of a tick (R47, R66, R82, R192) -/

/-- A pass in flight, a tick older (R29, log 7). -/
def Pass.older (p : Pass) (c : NodeConfig) (free : Nat) : Pass :=
  { p with
    age := p.age + 1
    progress := min (c.channelCount - 1) (p.progress + Config.channelsEvaluated free) }

theorem tickCounts_eq (s : State) :
    s.tickCounts =
      { s with
        now := s.now + 1
        pulse := if s.pulse.running then s.pulse.advance s.config.pwmMode s.config.countsPerTick else s.pulse
        trigger := if s.trigger.running then { s.trigger with countdown := s.trigger.countdown - 1 } else s.trigger
        loader := s.loader.tick
        composer := { s.composer with pass := s.composer.pass.map fun p => p.older s.config s.freeCount }
        freeCount := if s.composer.pass.isSome then s.freeCount + 1 else s.freeCount } := by
  have hpulse : s.tickPulse = { s with
      pulse := if s.pulse.running then s.pulse.advance s.config.pwmMode s.config.countsPerTick else s.pulse } := by
    unfold State.tickPulse
    split <;> rfl
  have htrigger : ∀ u : State, u.tickTrigger = { u with
      trigger := if u.trigger.running then { u.trigger with countdown := u.trigger.countdown - 1 } else u.trigger } := by
    intro u
    unfold State.tickTrigger
    split <;> rfl
  have hpass : ∀ u : State, u.tickPass = { u with
      composer := { u.composer with pass := u.composer.pass.map fun p => p.older u.config u.freeCount }
      freeCount := if u.composer.pass.isSome then u.freeCount + 1 else u.freeCount } := by
    intro u
    unfold State.tickPass
    cases hp : u.composer.pass with
    | none =>
      have hcomposer : { u.composer with pass := none } = u.composer := by rw [← hp]
      rw [Option.map_none, hcomposer]
      rfl
    | some p => rfl
  unfold State.tickCounts
  rw [hpulse, htrigger, hpass]

/-! ### The moments of the clocks -/

/-- A cycle start has been reached and not been taken. -/
def State.cycleReached (s : State) : Bool := s.pulse.running && s.pulse.cycleDue

/-- The pass in flight has had its 124 ticks (R29). -/
def State.passBound (s : State) : Bool := (s.composer.pass.map fun p => decide (124 ≤ p.age)).getD false

theorem takeCycleStart_of_reached {s : State} (h : s.cycleReached = true) :
    s.takeCycleStart = { s with pulse := s.pulse.takeCycleStart } :=
  if_pos h

theorem takeCycleStart_reached (s : State) : s.takeCycleStart.cycleReached = false := by
  cases h : s.cycleReached with
  | false => rwa [takeCycleStart_of_not_due h]
  | true =>
    rw [takeCycleStart_of_reached h, State.cycleReached]
    unfold PulseUnit.takeCycleStart
    dsimp only
    split <;> exact Bool.and_false _

theorem passDeadline_of_bound {s : State} (h : s.passBound = true) : s.passDeadline = s.completePass := by
  unfold State.passBound at h
  unfold State.passDeadline
  cases hpass : s.composer.pass with
  | none =>
    rw [hpass] at h
    contradiction
  | some p =>
    rw [hpass] at h
    exact if_pos (of_decide_eq_true h)

theorem passDeadline_of_not_bound {s : State} (h : s.passBound = false) : s.passDeadline = s := by
  unfold State.passBound at h
  unfold State.passDeadline
  cases hpass : s.composer.pass with
  | none => rfl
  | some p =>
    rw [hpass] at h
    exact if_neg (of_decide_eq_false h)

theorem clockMoments_of_none {s : State} (hcycle : s.cycleReached = false) (hbound : s.passBound = false) :
    s.clockMoments = s := by
  rw [State.clockMoments, takeCycleStart_of_not_due hcycle, passDeadline_of_not_bound hbound]

theorem clockMoments_takeCycleStart (s : State) : s.takeCycleStart.clockMoments = s.clockMoments := by
  rw [State.clockMoments, State.clockMoments, takeCycleStart_of_not_due (takeCycleStart_reached s)]

theorem clockMoments_of_bound {s : State} (hcycle : s.cycleReached = false) (hbound : s.passBound = true) :
    s.clockMoments = s.completePass := by
  rw [State.clockMoments, takeCycleStart_of_not_due hcycle, passDeadline_of_bound hbound]

theorem clockMoments_completePass {s : State} (hcycle : s.cycleReached = false) :
    s.completePass.clockMoments = s.completePass := by
  refine clockMoments_of_none ?_ ?_
  · rw [← hcycle]
    simp only [State.cycleReached]
    cases hpass : s.composer.pass with
    | none => rw [completePass_of_none hpass]
    | some p => rw [completePass_of_some hpass]
  · unfold State.passBound
    cases hpass : s.composer.pass with
    | none => rw [completePass_of_none hpass, hpass]; rfl
    | some p => rw [completePass_of_some hpass]; rfl

/-- A due sample of the lines, taken with no boundary between, is done with for this moment. -/
theorem sampleDue_iff (s : State) : s.sampleDue = true ↔ s.trigger.running = true ∧ s.trigger.countdown = 0 := by
  rw [State.sampleDue, Bool.and_eq_true, beq_iff_eq]

theorem takeDueSample_of_not_due {s : State} (h : s.sampleDue = false) : s.takeDueSample = s :=
  if_neg (by rw [h]; exact Bool.false_ne_true)

theorem takeDueSample_of_due {s : State} (h : s.sampleDue = true) :
    s.takeDueSample = s.sampleLines s.trigger.lines false :=
  if_pos h

/-- A sample with no boundary between changes none of the clocks but its own. -/
theorem sampleLines_clocks (s : State) (levels : BitVec 8) :
    let t := s.sampleLines levels false
    t.trigger = (s.takeSample levels).trigger ∧ t.time = s.time ∧ t.pulse = s.pulse ∧ t.composer = s.composer ∧
      t.due = s.due ∧ t.config = s.config := by
  have htaken : s.sampleLines levels false = (s.takeSample levels).takeActions (s.firedActions levels) := rfl
  dsimp only
  rw [htaken]
  simp

theorem settleClocks_of_none {s : State} (hcycle : s.cycleReached = false) (hbound : s.passBound = false)
    (hsample : s.sampleDue = false) : s.settleClocks = s := by
  rw [State.settleClocks, clockMoments_of_none hcycle hbound, takeDueSample_of_not_due hsample]

theorem settleClocks_of_sample {s : State} (hcycle : s.cycleReached = false) (hbound : s.passBound = false)
    (hsample : s.sampleDue = true) : s.settleClocks = s.sampleLines s.trigger.lines false := by
  rw [State.settleClocks, clockMoments_of_none hcycle hbound, takeDueSample_of_due hsample]

theorem settleClocks_sampleLines {s : State} (hcycle : s.cycleReached = false) (hbound : s.passBound = false)
    (hinterval : 0 < s.config.sampleInterval) (levels : BitVec 8) :
    (s.sampleLines levels false).settleClocks = s.sampleLines levels false := by
  obtain ⟨htrigger, -, hpulse, hcomposer, -, -⟩ := sampleLines_clocks s levels
  refine settleClocks_of_none ?_ ?_ ?_
  · rwa [State.cycleReached, hpulse]
  · rwa [State.passBound, hcomposer]
  · rw [State.sampleDue, htrigger]
    change (_ && (s.config.sampleInterval == 0)) = false
    rw [beq_false_of_ne (by omega), Bool.and_false]

theorem settleClocks_congr {s t : State} (h : s.clockMoments = t.clockMoments) : s.settleClocks = t.settleClocks := by
  rw [State.settleClocks, State.settleClocks, h]

theorem settleClocks_due (s : State) : s.settleClocks.due = s.due := by
  have hclocks : s.clockMoments.due = s.due := by simp
  rw [State.settleClocks]
  cases hsample : s.clockMoments.sampleDue with
  | false => rw [takeDueSample_of_not_due hsample, hclocks]
  | true =>
    obtain ⟨-, -, -, -, hdue, -⟩ := sampleLines_clocks s.clockMoments s.clockMoments.trigger.lines
    rw [takeDueSample_of_due hsample, hdue, hclocks]

/-! ### The ordinary advance (R47) -/

theorem exec_ordinaryAdvance {s : State} (h : s.momentDone) :
    exec .ordinaryAdvance s =
      .next (if s.time.running ∧ s.config.stepLength ≤ s.time.phase + 1 then s.settleClocks.endMoment.passTick else s) := by
  change execOrdinaryAdvance s = _
  unfold execOrdinaryAdvance
  rw [settleMoment_of_done s h]

/-- Two nodes of one time, due work and step length whose clocks settle alike advance alike. -/
theorem exec_ordinaryAdvance_congr {s t : State} (h : s.momentDone) (hrun : s.time.running = true)
    (hend : s.config.stepLength ≤ s.time.phase + 1) (hdue : t.due = s.due) (htime : t.time = s.time)
    (hconfig : t.config = s.config) (hclocks : s.settleClocks = t.settleClocks) :
    exec .ordinaryAdvance s = exec .ordinaryAdvance t := by
  have ht : t.momentDone := by
    unfold State.momentDone State.boundaryDone at *
    rwa [hdue]
  rw [exec_ordinaryAdvance h, exec_ordinaryAdvance ht, htime, hconfig, if_pos ⟨hrun, hend⟩, if_pos ⟨hrun, hend⟩, hclocks]

theorem passTick_of_end {s : State} (hrun : s.time.running = true) (hend : s.config.stepLength ≤ s.time.phase + 1) :
    s.passTick =
      ({ s.tickCounts with
          time := { s.time with step := s.time.step + 1, phase := 0, trimUsed := 0 } } : State).boundary := by
  have htime : s.tickCounts.time = s.time := by rw [tickCounts_eq]
  have hconfig : s.tickCounts.config = s.config := by rw [tickCounts_eq]
  rw [State.passTick, State.tickTime, htime, hconfig, if_pos hrun, if_neg (Nat.not_lt.mpr hend), State.advanceStep, htime]
  rfl

theorem passTick_of_within {s : State} (h : s.time.running = false ∨ s.time.phase + 1 < s.config.stepLength) :
    s.passTick =
      { s.tickCounts with
        time := if s.time.running then { s.time with phase := s.time.phase + 1 } else s.time } := by
  have htime : s.tickCounts.time = s.time := by rw [tickCounts_eq]
  have hconfig : s.tickCounts.config = s.config := by rw [tickCounts_eq]
  rw [State.passTick, State.tickTime, htime, hconfig]
  cases hrun : s.time.running with
  | false =>
    rw [if_neg Bool.false_ne_true, if_neg Bool.false_ne_true, ← htime]
  | true =>
    have hlt : s.time.phase + 1 < s.config.stepLength := h.resolve_left (by rw [hrun]; exact Bool.noConfusion)
    rw [if_pos rfl, if_pos rfl, if_pos hlt]
    rfl

/-- Settles O2, by what a clock has reached and, where none has, by the counts of the tick. -/
theorem emptyQueueIsOneTick : Obligations.EmptyQueueIsOneTick := by
  unfold Obligations.EmptyQueueIsOneTick
  intro s hpending hquiet
  have hstep : ∀ t : State, t.pending = [] → t.quiet → step t = .next t.settleClocks.passTick := by
    intro t hpending hquiet
    unfold step
    rw [hpending]
    change Host.Outcome.next t.tick = _
    rw [State.tick, settle_of_quiet t hquiet]
  have hcongr : ∀ t : State, t.pending = s.pending → t.due = s.due → s.settleClocks = t.settleClocks →
      step s = step t := by
    intro t ht hdue hclocks
    rw [hstep s hpending hquiet, hstep t (ht.trans hpending) (hdue.trans hquiet), hclocks]
  have htombs : s.due.tombstones = false := congrArg Due.tombstones hquiet
  have hdone := momentDone_of_quiet hquiet
  refine ⟨fun hcycle => ⟨s.takeCycleStart, rfl, ?_⟩, fun hcycle hbound => ⟨s.completePass, ?_, ?_⟩,
    fun hcycle hbound hsample hinterval => ⟨s.sampleLines s.trigger.lines false, ?_, ?_⟩, fun hrun hend => ?_,
    fun hcycle hbound hsample hwithin => ?_⟩
  · refine hcongr _ ?_ ?_ (settleClocks_congr (clockMoments_takeCycleStart s).symm)
    · rw [takeCycleStart_of_reached hcycle]
    · rw [takeCycleStart_of_reached hcycle]
  · change Host.Outcome.next s.takeTombstones.completePass = _
    rw [takeTombstones_of_done htombs]
  · refine hcongr _ (by simp) (by simp) (settleClocks_congr ?_)
    rw [clockMoments_of_bound hcycle hbound, clockMoments_completePass hcycle]
  · change execTriggerSample _ _ s = _
    unfold execTriggerSample
    rw [settle_of_quiet s hquiet]
    exact congrArg _ (if_pos hsample)
  · obtain ⟨-, -, -, -, hdue, -⟩ := sampleLines_clocks s s.trigger.lines
    refine hcongr _ (by simp) hdue ?_
    rw [settleClocks_of_sample hcycle hbound hsample, settleClocks_sampleLines hcycle hbound hinterval]
  · have hended : s.settleClocks.due.listenEnded = false := by
      rw [settleClocks_due]
      exact congrArg Due.listenEnded hquiet
    rw [hstep s hpending hquiet, exec_ordinaryAdvance hdone, if_pos ⟨hrun, hend⟩, endMoment_of_false _ hended]
  · rw [hstep s hpending hquiet, settleClocks_of_none hcycle hbound hsample, passTick_of_within hwithin, tickCounts_eq]
    cases s.loader <;> rfl

/-! ### What a boundary leaves of each block (R48) -/

/-- A boundary starts a pass. -/
def State.startsPass (s : State) : Bool := s.time.isSet && s.controller.state.takesPart

/-- What the pass start of a boundary leaves of the table, the composer, the counters and the marks (R29, R30). -/
theorem boundary_pass_blocks (u : State) :
    u.boundary.table = (if u.startsPass then u.table.map (slotAtPass u.time.step) else u.table) ∧
      (u.startsPass = true →
        u.boundary.composer =
          { u.composer with
            pass := some
              { target := u.time.step, progress := 0, failsafe := u.failsafeDecision u.time.step,
                view := liveEntries u.boundary.table, age := 0 } }) ∧
      (u.startsPass = false → u.boundary.composer = u.composer) ∧
      u.boundary.counters = (if u.startsPass then u.passCounts (u.failsafeDecision u.time.step) else u.counters) ∧
      u.boundary.due.tombstones = (u.startsPass || u.due.tombstones) := by
  have hboundary : u.boundary = (if u.startsPass then u.startPass u.time.step else u).countBoundary := boundary_eq u
  rw [hboundary]
  cases u.startsPass with
  | false => exact ⟨rfl, fun h => Bool.noConfusion h, fun _ => rfl, rfl, rfl⟩
  | true =>
    rw [if_pos rfl, startPass_eq]
    exact ⟨rfl, fun _ => rfl, fun h => Bool.noConfusion h, rfl, rfl⟩

/-- What a boundary leaves of the other blocks (R109, R146, R158, R166, R174). -/
theorem boundary_other_blocks (u : State) :
    u.boundary.time = u.time ∧ u.boundary.now = u.now ∧ u.boundary.config = u.config ∧ u.boundary.ring = u.ring ∧
      u.boundary.publications = u.publications ∧ u.boundary.pulse = u.pulse ∧ u.boundary.trigger = u.trigger ∧
      u.boundary.origins = (if u.time.isSet then u.origins.map (fun o => o.atBoundary u.time.step) else u.origins) ∧
      u.boundary.roster = u.roster.map (fun p => { p with silence := p.silence + 1 }) ∧
      u.boundary.controller = u.controller.atBoundary ∧
      u.boundary.responder = u.responder.atBoundary u.controller.state := by
  rw [boundary_eq]
  split
  · rw [startPass_eq]
    exact ⟨rfl, rfl, rfl, rfl, rfl, rfl, rfl, rfl, rfl, rfl, rfl⟩
  · exact ⟨rfl, rfl, rfl, rfl, rfl, rfl, rfl, rfl, rfl, rfl, rfl⟩

/-- The marks that a boundary leaves, where none of the last one's stand but those of the placings (log 5). -/
theorem boundary_due {u : State} (h : u.momentDone) (hended : u.due.listenEnded = false) :
    u.boundary.due =
      { tombstones := u.startsPass
        peerSilent := true
        peerGone := true
        publications := u.time.isSet
        joinExpiry := u.controller.state == .admitting
        joinPlace := u.due.joinPlace || u.controller.state == .admitting
        watch := u.controller.state.sendsOwn
        listenEnd := u.controller.state == .listen
        listenEnded := false
        strayAges := u.controller.state.strips
        beacon := u.controller.state.publishes && (u.responder.atBoundary u.controller.state).countdown == 0
        entries := u.due.entries } := by
  have hdue : u.due = { Due.none with joinPlace := u.due.joinPlace, entries := u.due.entries } := by
    obtain ⟨hboundary, hlisten⟩ := h
    refine hboundary.trans ?_
    rw [hlisten, hended]
    rfl
  have hpassed : u.boundary = (if u.startsPass then u.startPass u.time.step else u).countBoundary := boundary_eq u
  rw [hpassed]
  cases u.startsPass with
  | false =>
    change u.countBoundary.due = _
    unfold State.countBoundary State.markDue
    rw [hdue]
    rfl
  | true =>
    rw [if_pos rfl, startPass_eq]
    unfold State.countBoundary State.markDue
    rw [hdue]
    rfl

theorem beaconDue_eq (r : Responder) (n : NodeState) :
    (n.publishes && (r.atBoundary n).countdown == 0) = (n.publishes && decide (r.countdown ≤ 1)) := by
  unfold Responder.atBoundary
  cases n.publishes with
  | false => rfl
  | true =>
    rw [Bool.eq_iff_iff]
    simp
    omega

/-- Settles O31, by what the clocks have reached and, where none has, by what the boundary leaves of each block. -/
theorem ordinaryAdvance : Obligations.OrdinaryAdvance := by
  unfold Obligations.OrdinaryAdvance
  refine ⟨⟨rfl, rfl, rfl, rfl⟩, fun s hdone => ⟨fun hwithin => ?_, fun hrun hend =>
    ⟨fun hcycle => ?_, fun hcycle hbound => ?_,
    fun hcycle hbound => clockMoments_of_none hcycle hbound, fun hcycle hbound hsample hinterval => ?_⟩,
    fun hrun hend hcycle hbound hsample => ?_⟩⟩
  · rw [exec_ordinaryAdvance hdone, if_neg]
    rintro ⟨hrun, hend⟩
    exact hwithin.elim (fun h => Bool.noConfusion (h.symm.trans hrun)) fun h => absurd h (Nat.not_lt.mpr hend)
  · have hsame := clockMoments_takeCycleStart s
    refine ⟨s.takeCycleStart, rfl, exec_ordinaryAdvance_congr hdone hrun hend ?_ ?_ ?_ (settleClocks_congr hsame.symm),
      hsame.symm⟩ <;> simp
  · have htombs : s.due.tombstones = false := congrArg Due.tombstones hdone.1
    have hmoments := clockMoments_of_bound hcycle hbound
    refine ⟨s.completePass, ?_, exec_ordinaryAdvance_congr hdone hrun hend (by simp) (by simp) (by simp)
      (settleClocks_congr ?_), hmoments⟩
    · change Host.Outcome.next s.takeTombstones.completePass = _
      rw [takeTombstones_of_done htombs]
    · rw [hmoments, clockMoments_completePass hcycle]
  · obtain ⟨-, htime, -, -, hdue, hconfig⟩ := sampleLines_clocks s s.trigger.lines
    refine ⟨exec_ordinaryAdvance_congr hdone hrun hend hdue htime hconfig ?_, fun hquiet => ?_⟩
    · rw [settleClocks_of_sample hcycle hbound hsample, settleClocks_sampleLines hcycle hbound hinterval]
    · change execTriggerSample _ _ s = _
      unfold execTriggerSample
      rw [settle_of_quiet s hquiet]
      exact congrArg _ (if_pos hsample)
  · have hexec : exec .ordinaryAdvance s = .next s.endMoment.passTick := by
      rw [exec_ordinaryAdvance hdone, if_pos ⟨hrun, hend⟩, settleClocks_of_none hcycle hbound hsample]
    have htick : s.endMoment.passTick =
        ({ s.tickCounts with
            due := { s.due with listenEnded := false }
            time := { s.time with step := s.time.step + 1, phase := 0, trimUsed := 0 } } : State).boundary := by
      rw [passTick_of_end (s := s.endMoment) (by exact hrun) (by exact hend), tickCounts_eq, tickCounts_eq]
      rfl
    refine ⟨_, hexec, rfl, htick, ?_⟩
    rw [htick, tickCounts_eq]
    generalize hu : ({ s with
        now := s.now + 1
        pulse := if s.pulse.running then s.pulse.advance s.config.pwmMode s.config.countsPerTick else s.pulse
        trigger := if s.trigger.running then { s.trigger with countdown := s.trigger.countdown - 1 } else s.trigger
        loader := s.loader.tick
        composer := { s.composer with pass := s.composer.pass.map fun p => p.older s.config s.freeCount }
        freeCount := if s.composer.pass.isSome then s.freeCount + 1 else s.freeCount
        due := { s.due with listenEnded := false }
        time := { s.time with step := s.time.step + 1, phase := 0, trimUsed := 0 } } : State) = u
    have hmoment : u.momentDone := by
      obtain ⟨hboundary, hlisten⟩ := hdone
      rw [← hu]
      refine ⟨?_, hlisten⟩
      change ({ s.due with listenEnded := false } : Due) = _
      rw [hboundary]
    have hdue := boundary_due hmoment (by rw [← hu])
    obtain ⟨htable, hcomposer, hnone, hcounters, -⟩ := boundary_pass_blocks u
    obtain ⟨htime, hnow, hconfig, hring, hpublications, hpulse, htrigger, horigins, hroster, hcontroller, hresponder⟩ :=
      boundary_other_blocks u
    rw [failsafeDecision_eq] at hcomposer hcounters
    rw [beaconDue_eq] at hdue
    unfold State.passCounts at hcounters
    subst hu
    dsimp only at hcounters
    rw [Option.isSome_map] at hcounters
    refine ⟨htime, hnow, hconfig, hring, hpublications, hpulse, htrigger, htable, hcomposer, fun hstarts => ?_, hcounters,
      horigins, hroster, hcontroller, hresponder, hdue⟩
    rw [hnone hstarts]
    refine ⟨rfl, rfl, ?_⟩
    rw [Option.map_map]
    rfl

end Sys2Proof.Machine
end

section
/-! PROOFS. Actions (R88 to R93, R97, R98): those that are lost, and what a START or a RELEASE publishes. -/

namespace Sys2Proof.Machine

/-! ### How an action is settled (R88 to R91) -/

theorem takeAction_of_lost {s : State} {capture : Capture}
    (h : capture.isSet = false ∨ s.controller.state = .clash) (action : TriggerAction) (t : Nat) :
    s.takeAction action t capture = s.count .triggerLost := by
  have hlost : (!capture.isSet || s.controller.state == .clash) = true := by
    rcases h with h | h
    · rw [h]; rfl
    · rw [h, Bool.or_eq_true]; exact Or.inr rfl
  exact if_pos hlost

/-- An action of a valid template, with a set capture and out of CLASH, goes by how it is settled and by the room. -/
theorem takeAction_of_heard {s : State} {capture : Capture} {t : Nat} {tpl : Template}
    (htpl : s.config.template t = some tpl) (hset : capture.isSet = true) (hclash : s.controller.state ≠ .clash)
    (action : TriggerAction) :
    (settleAction action (s.originSlot t).state = .ignored →
        s.takeAction action t capture = s.count .triggerLost) ∧
      (settleAction action (s.originSlot t).state = .start →
        s.takeAction action t capture =
          if s.publicationRoom t = true then s.startTemplate t tpl capture.step else s.count .triggerLost) ∧
      (settleAction action (s.originSlot t).state = .release →
        s.takeAction action t capture =
          if s.publicationRoom t = true then s.releaseTemplate t tpl capture.step else s.count .triggerLost) := by
  have hheard : ¬ (!capture.isSet || s.controller.state == .clash) = true := by
    rw [hset, Bool.or_eq_true, beq_iff_eq]
    exact fun h => h.elim Bool.noConfusion hclash
  unfold State.takeAction
  rw [if_neg hheard, htpl]
  exact ⟨fun h => by rw [h], fun h => by rw [h], fun h => by rw [h]⟩

/-- Settles O42, by the four reasons for which an action is lost. -/
theorem lostActions : Obligations.LostActions := by
  unfold Obligations.LostActions
  intro s action t capture tpl htpl hlost
  by_cases hset : capture.isSet = false ∨ s.controller.state = .clash
  · exact takeAction_of_lost hset action t
  · push Not at hset
    obtain ⟨hset, hclash⟩ := hset
    obtain ⟨hignored, hstart, hrelease⟩ := takeAction_of_heard htpl (Bool.eq_true_of_not_eq_false hset) hclash action
    rcases hlost with h | h | ⟨rfl, hstate⟩ | ⟨hfull, hnone⟩
    · exact absurd h hset
    · exact absurd h hclash
    · refine hignored ?_
      cases hs : (s.originSlot t).state with
      | live => contradiction
      | _ => rfl
    · have hroom : ¬ s.publicationRoom t = true := by
        rw [publicationRoom_iff]
        rintro (hlt | ⟨e, he, hslot⟩)
        · exact absurd hlt (Nat.not_lt.mpr hfull)
        · exact hnone e he hslot
      rw [if_neg hroom] at hstart hrelease
      cases hsettled : settleAction action (s.originSlot t).state with
      | start => exact hstart hsettled
      | release => exact hrelease hsettled
      | ignored => exact hignored hsettled

/-! ### Placing and feeding around one entry (R101, R108) -/

/-- What placing keeps, and taking the mark off a marked slot, with or without an entry created for it, a feed keeps. -/
theorem feedReplays_keeps_marked {P : State → Prop}
    (hfeed : ∀ u j, (u.originSlot j).replay = true → P u →
      P (u.setOriginSlot j (u.originSlot j).unmarked) ∧
        ∀ kind payload, P ((u.setOriginSlot j (u.originSlot j).unmarked).createPublication j kind true false payload))
    (hplace : ∀ u, P u → P u.placePublications) {s : State} (hs : P s) : P s.feedReplays := by
  refine hplace _ (foldl_keeps_prop (fun u j hu => ?_) _ _ hs)
  cases hmark : (u.originSlot j).replay with
  | false => rwa [feedSlot_of_unmarked hmark]
  | true =>
    obtain ⟨hidle, hcreate⟩ := hfeed u j hmark hu
    rcases feedSlot_cases u j with h | h | ⟨kind, payload, h⟩ <;> rw [h]
    · exact hu
    · exact hidle
    · exact hcreate kind payload

theorem placeInOrder_filter_nil {l : List Publication} {t : Nat} (h : l.filter (fun e => e.slot == t) = [])
    (room : Nat) : (placeInOrder room l).1.filter (fun e => e.slot == t) = [] := by
  rw [List.filter_eq_nil_iff] at *
  intro x hx
  have hslot : x.slot ∈ (placeInOrder room l).1.map Publication.slot := List.mem_map_of_mem hx
  rw [placeInOrder_map fun _ => rfl] at hslot
  obtain ⟨y, hy, heq⟩ := List.mem_map.mp hslot
  rw [← heq]
  exact h y hy

/-- The one entry of a slot is the one entry of that slot after placing, as it was or placed. -/
theorem placeInOrder_filter_single {l : List Publication} {t : Nat} {e : Publication} (room : Nat)
    (h : l.filter (fun x => x.slot == t) = [e]) :
    (placeInOrder room l).1.filter (fun x => x.slot == t) = [e] ∨
      (placeInOrder room l).1.filter (fun x => x.slot == t) = [e.placed] := by
  induction l generalizing room with
  | nil => contradiction
  | cons x rest ih =>
    unfold placeInOrder
    by_cases hx : x.slot = t
    · rw [List.filter_cons_of_pos (by simpa using hx), List.cons.injEq] at h
      obtain ⟨rfl, hrest⟩ := h
      split
      · left
        rw [List.filter_cons_of_pos (by simpa using hx), placeInOrder_filter_nil hrest]
      · cases room with
        | zero =>
          left
          rw [List.filter_cons_of_pos (by simpa using hx), hrest]
        | succ room =>
          right
          rw [List.filter_cons_of_pos (by simpa using hx), placeInOrder_filter_nil hrest]
          rfl
    · rw [List.filter_cons_of_neg (by simpa using hx)] at h
      split
      · rw [List.filter_cons_of_neg (by simpa using hx)]
        exact ih room h
      · cases room with
        | zero =>
          left
          rw [List.filter_cons_of_neg (by simpa using hx), h]
        | succ room =>
          rw [List.filter_cons_of_neg (by simpa using hx)]
          exact ih room h

/-- Nothing can be placed: publications are not placed in this node state, or the queue is full (R101). -/
def State.blocked (s : State) : Prop := s.controller.state.publishes = false ∨ 8 ≤ s.ring.sendQueue.length

theorem placeInOrder_zero (l : List Publication) : placeInOrder 0 l = (l, []) := by
  induction l with
  | nil => rfl
  | cons e rest ih =>
    unfold placeInOrder
    rw [ih]
    split <;> rfl

theorem placePublications_of_blocked {s : State} (h : s.blocked) : s.placePublications = s := by
  cases hp : s.controller.state.publishes with
  | false => exact placePublications_of_silent hp
  | true =>
    have hfull : 8 - s.ring.sendQueue.length = 0 :=
      Nat.sub_eq_zero_of_le (h.resolve_left fun hno => Bool.noConfusion (hno.symm.trans hp))
    rw [placePublications_of_publishes hp, State.placedEntries, hfull, placeInOrder_zero, List.take_zero, List.map_nil,
      List.append_nil]
    rfl

/-- The entry with its place on the ring as given. -/
def Publication.withOnRing (e : Publication) (onRing : Bool) : Publication := { e with onRing := onRing }

/-- The slot stands as recorded and unmarked, its one entry is the one created, placed or not, and where nothing can be
placed neither it nor the queue moves. -/
def State.published (start : State) (t : Nat) (slot : OriginSlot) (entry : Publication) (u : State) : Prop :=
  u.originSlot t = slot ∧ u.controller = start.controller ∧ start.ring.sendQueue <+: u.ring.sendQueue ∧
    (start.blocked → u.ring.sendQueue = start.ring.sendQueue) ∧
    ∃ onRing, u.publications.filter (fun x => x.slot == t) = [entry.withOnRing onRing] ∧
      (start.blocked → onRing = false)

section Published

variable {start u : State} {t : Nat} {slot : OriginSlot} {entry : Publication}

theorem State.published_place (hsent : entry.sent = none) (h : start.published t slot entry u) :
    start.published t slot entry u.placePublications := by
  obtain ⟨hslot, hcontroller, hprefix, hqueue, onRing, hentry, hblocked⟩ := h
  by_cases hb : start.blocked
  · have hu : u.blocked := by
      rw [State.blocked, hcontroller, hqueue hb]
      exact hb
    rw [placePublications_of_blocked hu]
    exact ⟨hslot, hcontroller, hprefix, hqueue, onRing, hentry, hblocked⟩
  · cases hp : u.controller.state.publishes with
    | false =>
      rw [placePublications_of_silent hp]
      exact ⟨hslot, hcontroller, hprefix, hqueue, onRing, hentry, hblocked⟩
    | true =>
      rw [placePublications_of_publishes hp]
      refine ⟨hslot, hcontroller, hprefix.trans (List.prefix_append _ _), fun h => absurd h hb, ?_⟩
      rcases placeInOrder_filter_single (8 - u.ring.sendQueue.length) hentry with h | h
      · exact ⟨onRing, h, hblocked⟩
      · refine ⟨true, h.trans ?_, fun h => absurd h hb⟩
        unfold Publication.placed Publication.withOnRing
        rw [hsent]

theorem State.published_feed (hsent : entry.sent = none) (hmark : slot.replay = false)
    (h : start.published t slot entry u) : start.published t slot entry u.feedReplays := by
  refine feedReplays_keeps_marked (P := fun v => start.published t slot entry v) (fun v j hj hv => ?_)
    (fun v hv => State.published_place hsent hv) h
  obtain ⟨hslot, hcontroller, hprefix, hqueue, onRing, hentry, hblocked⟩ := hv
  have hne : j ≠ t := by
    rintro rfl
    rw [hslot, hmark] at hj
    contradiction
  have hstays : (v.setOriginSlot j (v.originSlot j).unmarked).originSlot t = slot := by
    rw [← hslot]
    simp [State.originSlot, State.setOriginSlot, hne]
  refine ⟨⟨hstays, hcontroller, hprefix, hqueue, onRing, hentry, hblocked⟩,
    fun kind payload => ⟨hstays, hcontroller, hprefix, hqueue, onRing, ?_, hblocked⟩⟩
  rw [createPublication_eq, ← hentry]
  dsimp only
  rw [List.filter_append, List.filter_filter, List.filter_cons_of_neg (by simpa using hne), List.filter_nil,
    List.append_nil]
  refine List.filter_congr fun x _ => ?_
  by_cases hx : x.slot = t
  · simp [hx, hne.symm]
  · simp [hx]

end Published

/-! ### The publication of an action (R97, R98, R100 to R102) -/

theorem placeInOrder_last {l : List Publication} {e : Publication} (hl : ∀ x ∈ l, x.onRing = true)
    (he : e.onRing = false) (room : Nat) : placeInOrder (room + 1) (l ++ [e]) = (l ++ [e.placed], [e]) := by
  induction l with
  | nil =>
    rw [List.nil_append]
    unfold placeInOrder
    rw [if_neg (by rw [he]; exact Bool.false_ne_true)]
    rfl
  | cons x rest ih =>
    rw [List.cons_append]
    unfold placeInOrder
    rw [if_pos (hl x (List.mem_cons_self ..)), ih fun y hy => hl y (List.mem_cons_of_mem x hy)]
    rfl

/-- The entry that an action creates for slot t on node v (R100). -/
def State.actionEntry (v : State) (t : Nat) (kind : PubKind) (a : Admission) (payload : List Byte) : Publication :=
  { sequence := v.ring.nextSequence, kind := kind, slot := t, replay := false, localRefusal := a == .refused, attempt := 1,
    onRing := false, sent := none, target := Config.ownTarget v.freeCount, payload := payload }

/-- The node with that entry listed, before anything is placed (R100). -/
def State.withAction (v : State) (t : Nat) (kind : PubKind) (a : Admission) (payload : List Byte) : State :=
  { v with
    freeCount := v.freeCount + 1
    ring := { v.ring with nextSequence := v.ring.nextSequence + 1 }
    publications := (v.publications.filter fun e => e.slot != t) ++ [v.actionEntry t kind a payload] }

section Action

variable {v : State} {t : Nat}

theorem withAction_published (kind : PubKind) (a : Admission) (payload : List Byte) :
    v.published t (v.originSlot t) (v.actionEntry t kind a payload) (v.withAction t kind a payload) := by
  refine ⟨rfl, rfl, List.prefix_rfl, fun _ => rfl, false, ?_, fun _ => rfl⟩
  have hnone : ((v.publications.filter fun e => e.slot != t).filter fun x => x.slot == t) = [] := by
    rw [List.filter_filter]
    exact List.filter_eq_nil_iff.mpr fun x _ => by simp
  unfold State.withAction
  dsimp only
  rw [List.filter_append, hnone, List.nil_append, List.filter_cons_of_pos (by simp [State.actionEntry])]
  rfl

theorem publishAction_eq (kind : PubKind) (a : Admission) (payload : List Byte) :
    v.publishAction t kind a payload =
      if ∃ e ∈ v.publications, e.slot = t then (v.withAction t kind a payload).placePublications.feedReplays
      else (v.withAction t kind a payload).placePublications := by
  simp only [← hasPublication_iff]
  rfl

theorem publishAction_published (hmark : (v.originSlot t).replay = false) (kind : PubKind) (a : Admission)
    (payload : List Byte) :
    v.published t (v.originSlot t) (v.actionEntry t kind a payload) (v.publishAction t kind a payload) := by
  have hplaced := State.published_place rfl (withAction_published (v := v) (t := t) kind a payload)
  rw [publishAction_eq]
  split
  · exact State.published_feed rfl hmark hplaced
  · exact hplaced

theorem publishAction_get {k : Counter} (hp : k ≠ .published) (hr : k ≠ .replaysSent) (kind : PubKind) (a : Admission)
    (payload : List Byte) : (v.publishAction t kind a payload).counters.get k = v.counters.get k := by
  rw [publishAction_eq]
  split
  · rw [feedReplays_get hp hr, placePublications_get hp hr]
    rfl
  · rw [placePublications_get hp hr]
    rfl

/-- With room and nothing else waiting, the entry is placed at once and counted *published* (R101). -/
theorem publishAction_of_room (hpublishes : v.controller.state.publishes = true) (hroom : v.ring.sendQueue.length < 8)
    (hothers : ∀ e ∈ v.publications, e.onRing = true ∧ e.slot ≠ t) (kind : PubKind) (a : Admission)
    (payload : List Byte) :
    v.publishAction t kind a payload =
      { v.withAction t kind a payload with
        publications := v.publications ++ [(v.actionEntry t kind a payload).withOnRing true]
        ring :=
          { v.ring with
            nextSequence := v.ring.nextSequence + 1
            sendQueue := v.ring.sendQueue ++ [(v.actionEntry t kind a payload).message] }
        counters := v.counters.bump .published } := by
  have hkept : (v.publications.filter fun e => e.slot != t) = v.publications :=
    List.filter_eq_self.mpr fun e he => bne_iff_ne.mpr (hothers e he).2
  have hlist : (v.withAction t kind a payload).publications = v.publications ++ [v.actionEntry t kind a payload] :=
    congrArg (· ++ [v.actionEntry t kind a payload]) hkept
  obtain ⟨room, hr⟩ : ∃ room, 8 - v.ring.sendQueue.length = room + 1 := ⟨7 - v.ring.sendQueue.length, by omega⟩
  have hplace : placeInOrder (8 - (v.withAction t kind a payload).ring.sendQueue.length)
      (v.withAction t kind a payload).publications =
        (v.publications ++ [(v.actionEntry t kind a payload).placed], [v.actionEntry t kind a payload]) := by
    change placeInOrder (8 - v.ring.sendQueue.length) _ = _
    rw [hr, hlist]
    exact placeInOrder_last (fun x hx => (hothers x hx).1) rfl room
  have hentries : (v.withAction t kind a payload).placedEntries = [v.actionEntry t kind a payload] := by
    rw [State.placedEntries, ← placeInOrder_placed, hplace]
  have hnone : ¬ ∃ e ∈ v.publications, e.slot = t := fun ⟨e, he, hslot⟩ => (hothers e he).2 hslot
  rw [publishAction_eq, if_neg hnone, placePublications_of_publishes (by exact hpublishes), hplace, hentries]
  rfl

end Action

/-! ### STARTs and RELEASEs (R89, R90, R97, R98) -/

/-- What a published action leaves, in the terms of the statements: of the entry, the queue and the slot. -/
theorem publishAction_entry {v : State} {t : Nat} (hmark : (v.originSlot t).replay = false) (kind : PubKind)
    (a : Admission) (payload : List Byte) :
    let after := v.publishAction t kind a payload
    let entry := v.actionEntry t kind a payload
    after.originSlot t = v.originSlot t ∧
      (∃ onRing, entry.withOnRing onRing ∈ after.publications ∧
        (∀ e ∈ after.publications, e.slot = t → e = entry.withOnRing onRing) ∧ (v.blocked → onRing = false)) ∧
      (v.blocked → after.ring.sendQueue = v.ring.sendQueue) := by
  obtain ⟨hslot, -, -, hqueue, onRing, hentry, hblocked⟩ := publishAction_published hmark kind a payload
  refine ⟨hslot, ⟨onRing, ?_, fun e he het => ?_, hblocked⟩, hqueue⟩
  · exact List.mem_of_mem_filter (hentry ▸ List.mem_singleton_self _)
  · exact List.mem_singleton.mp (hentry ▸ List.mem_filter.mpr ⟨he, by simpa using het⟩)

theorem takeAction_blocks (s : State) (action : TriggerAction) (t : Nat) (capture : Capture) :
    let after := s.takeAction action t capture
    after.time = s.time ∧ after.roster = s.roster ∧ after.controller = s.controller ∧ after.trigger = s.trigger ∧
      after.pulse = s.pulse ∧ after.composer = s.composer := by
  simp

/-- Node u with the record of slot t and the entry listed, where the admission that led to u left the other blocks as
they were on node s. -/
def State.listAction (u s : State) (t : Nat) (slot : OriginSlot) (entry : Publication) : State :=
  { u with
    origins := s.origins.set t slot
    publications := (s.publications.filter fun e => e.slot != t) ++ [entry]
    ring := { s.ring with nextSequence := s.ring.nextSequence + 1 }
    freeCount := s.freeCount + 1 }

/-- What an action leaves, once the admission has led from node s to node u and the slot's record is made (R97 to
R102). -/
def State.actionLeaves (s u : State) (t : Nat) (slot : OriginSlot) (entry : Publication) (after : State) : Prop :=
  after.table = u.table ∧ after.responder = u.responder ∧
    (∀ k, k ≠ .published → k ≠ .replaysSent → after.counters.get k = u.counters.get k) ∧
    after.originSlot t = slot ∧
    after =
      (if ∃ e ∈ s.publications, e.slot = t then (u.listAction s t slot entry).placePublications.feedReplays
       else (u.listAction s t slot entry).placePublications) ∧
    (∃ onRing, entry.withOnRing onRing ∈ after.publications ∧
      (∀ e ∈ after.publications, e.slot = t → e = entry.withOnRing onRing) ∧ (s.blocked → onRing = false)) ∧
    (s.blocked → after.ring.sendQueue = s.ring.sendQueue) ∧
    (s.controller.state.publishes = true → s.ring.sendQueue.length < 8 →
      (∀ e ∈ s.publications, e.onRing = true ∧ e.slot ≠ t) →
      after =
        { u.listAction s t slot entry with
          publications := s.publications ++ [entry.withOnRing true]
          ring := { (u.listAction s t slot entry).ring with sendQueue := s.ring.sendQueue ++ [entry.message] }
          counters := u.counters.bump .published })

theorem publishAction_recorded {u : State} {t : Nat} {slot : OriginSlot} (ht : t < u.origins.length)
    (hmark : slot.replay = false) (kind : PubKind) (a : Admission) (payload : List Byte) :
    u.actionLeaves u t slot (u.actionEntry t kind a payload)
      ((u.setOriginSlot t slot).publishAction t kind a payload) := by
  have hslot : (u.setOriginSlot t slot).originSlot t = slot := by rw [originSlot_set u t t slot ht, if_pos rfl]
  obtain ⟨hafter, hentry, hqueue⟩ := publishAction_entry (v := u.setOriginSlot t slot) (t := t) (by rw [hslot]; exact hmark)
    kind a payload
  refine ⟨by simp, by simp, fun k hp hr => publishAction_get hp hr kind a payload, hafter.trans hslot,
    publishAction_eq kind a payload, hentry, hqueue, fun hpublishes hroom hothers => ?_⟩
  exact publishAction_of_room (v := u.setOriginSlot t slot) hpublishes hroom hothers kind a payload

/-- Where the admission has left the blocks that an action reads as they were, its effect is told from node s. -/
theorem publishAction_admitted {s u : State} {t : Nat} {slot : OriginSlot} (horigins : u.origins = s.origins)
    (hpublications : u.publications = s.publications) (hring : u.ring = s.ring)
    (hcontroller : u.controller = s.controller) (hfree : u.freeCount = s.freeCount) (ht : t < s.origins.length)
    (hmark : slot.replay = false) (kind : PubKind) (a : Admission) (payload : List Byte) :
    s.actionLeaves u t slot (s.actionEntry t kind a payload)
      ((u.setOriginSlot t slot).publishAction t kind a payload) := by
  have hrecorded := publishAction_recorded (u := u) (slot := slot) (by rw [horigins]; exact ht) hmark kind a payload
  have hentry : u.actionEntry t kind a payload = s.actionEntry t kind a payload := by
    unfold State.actionEntry
    rw [hring, hfree]
  have hblocked : u.blocked ↔ s.blocked := by
    unfold State.blocked
    rw [hring, hcontroller]
  have hlisted : ∀ entry, u.listAction u t slot entry = u.listAction s t slot entry := by
    intro entry
    unfold State.listAction
    rw [hring, hfree, horigins, hpublications]
  unfold State.actionLeaves at *
  rw [hentry, hlisted, hblocked, hpublications, hring, hcontroller] at hrecorded
  exact hrecorded

/-- The cue of a START of template t (R97). -/
def State.startCue (s : State) (t : Nat) (tpl : Template) (captured : StepNo) : Cue :=
  cueOfTemplate s.ownId tpl ((s.originSlot t).revision + 1) (captured + tpl.lead.setWidth 32)
    (tpl.duration.map fun d => captured + tpl.lead.setWidth 32 + d.setWidth 32)

/-- The record of a START in its slot (R97, R99). -/
def State.startedSlot (s : State) (t : Nat) (tpl : Template) (captured : StepNo) (a : Admission) : OriginSlot :=
  OriginSlot.recordLocal
    { s.originSlot t with
      state := .live
      revision := (s.originSlot t).revision + 1
      start := some (captured + tpl.lead.setWidth 32)
      stop := tpl.duration.map fun d => captured + tpl.lead.setWidth 32 + d.setWidth 32
      release := none
      replay := false } a

theorem startTemplate_eq (s : State) (t : Nat) (tpl : Template) (captured : StepNo) :
    s.startTemplate t tpl captured =
      ((s.takeCue (s.startCue t tpl captured) true).2.setOriginSlot t
        (s.startedSlot t tpl captured (s.takeCue (s.startCue t tpl captured) true).1)).publishAction t .cue
          (s.takeCue (s.startCue t tpl captured) true).1 (s.startCue t tpl captured).payload := rfl

/-- Settles O43, by the local admission, the slot's record and the publication of the CUE. -/
theorem startsArePublished : Obligations.StartsArePublished := by
  unfold Obligations.StartsArePublished
  intro s action t capture tpl htpl ht hset hclash hroom haction
  have hsettled : settleAction action (s.originSlot t).state = .start := by
    rcases haction with rfl | ⟨rfl, hstate⟩
    · rfl
    · cases hs : (s.originSlot t).state with
      | live => contradiction
      | _ => rfl
  have hblocks := takeAction_blocks s action t capture
  dsimp only at hblocks ⊢
  rw [(takeAction_of_heard htpl hset hclash action).2.1 hsettled, if_pos ((publicationRoom_iff s t).mpr hroom),
    startTemplate_eq] at hblocks ⊢
  obtain ⟨-, -, -, -, -, -, -, -, horigins, hpublications, hring, -, hcontroller, -, -, hfree⟩ :=
    State.takeCue_frame s (s.startCue t tpl capture.step) true
  obtain ⟨htable, hresponder, hcounts, hslot, hafter, hentry, hqueue, hplaced⟩ : State.actionLeaves .. :=
    publishAction_admitted (slot := s.startedSlot t tpl capture.step (s.takeCue (s.startCue t tpl capture.step) true).1)
      horigins hpublications hring hcontroller hfree ht rfl .cue (s.takeCue (s.startCue t tpl capture.step) true).1
      (s.startCue t tpl capture.step).payload
  exact ⟨htable, hresponder, hcounts, hslot, hafter, hentry, hqueue, hplaced, hblocks⟩

/-- The fade-out of a RELEASE of a template (R98). -/
def releaseFade (tpl : Template) (captured : StepNo) : FadeOut :=
  { step := captured + tpl.lead.setWidth 32, fade := tpl.fade }

/-- The record of a RELEASE in its slot (R98, R99). -/
def State.releasedSlot (s : State) (t : Nat) (tpl : Template) (captured : StepNo) (a : Admission) : OriginSlot :=
  OriginSlot.recordLocal
    { s.originSlot t with state := .releasing, release := some (releaseFade tpl captured), replay := false } a

/-- The local admission of a RELEASE of template t (R98). -/
def State.admitRelease (s : State) (t : Nat) (tpl : Template) (captured : StepNo) : Admission × State :=
  s.takeRelease s.ownId tpl.number (s.originSlot t).revision (releaseFade tpl captured) true

theorem releaseTemplate_eq (s : State) (t : Nat) (tpl : Template) (captured : StepNo) :
    s.releaseTemplate t tpl captured =
      ((s.admitRelease t tpl captured).2.setOriginSlot t
        (s.releasedSlot t tpl captured (s.admitRelease t tpl captured).1)).publishAction t .release
          (s.admitRelease t tpl captured).1
          (releasePayload tpl.number (s.originSlot t).revision (releaseFade tpl captured)) := rfl

/-- Settles O44, by the local admission, the slot's record and the publication of the RELEASE. -/
theorem releasesArePublished : Obligations.ReleasesArePublished := by
  unfold Obligations.ReleasesArePublished
  intro s action t capture tpl htpl ht hset hclash hroom haction hlive
  have hsettled : settleAction action (s.originSlot t).state = .release := by
    rw [hlive]
    rcases haction with rfl | rfl <;> rfl
  have hblocks := takeAction_blocks s action t capture
  dsimp only at hblocks ⊢
  rw [(takeAction_of_heard htpl hset hclash action).2.2 hsettled, if_pos ((publicationRoom_iff s t).mpr hroom),
    releaseTemplate_eq] at hblocks ⊢
  obtain ⟨-, -, -, -, -, -, -, -, horigins, hpublications, hring, -, hcontroller, -, -, hfree⟩ :=
    State.takeRelease_frame s s.ownId tpl.number (s.originSlot t).revision (releaseFade tpl capture.step) true
  obtain ⟨htable, hresponder, hcounts, hslot, hafter, hentry, hqueue, hplaced⟩ : State.actionLeaves .. :=
    publishAction_admitted (u := (s.admitRelease t tpl capture.step).2)
      (slot := s.releasedSlot t tpl capture.step (s.admitRelease t tpl capture.step).1)
      horigins hpublications hring hcontroller hfree ht rfl .release (s.admitRelease t tpl capture.step).1
      (releasePayload tpl.number (s.originSlot t).revision (releaseFade tpl capture.step))
  exact ⟨htable, hresponder, hcounts, hslot, hafter, hentry, hqueue, hplaced, hblocks⟩

end Sys2Proof.Machine
end

section
/-! PROOFS. Shared time and samples: adoption of a stamp (R53 to R59), the filter and the fired actions (R83 to R88). -/

namespace Sys2Proof.Machine

/-! ### The estimate as a step and a phase (R54) -/

theorem estimate_step {L : Nat} (hL : 0 < L) (stamp : StepNo) (q : Nat) :
    BitVec.ofNat 32 ((stamp.toNat * L + q) % (L * 2 ^ 32) / L) = stamp + BitVec.ofNat 32 (q / L) := by
  have hdiv : (stamp.toNat * L + q) / L = stamp.toNat + q / L := by
    rw [Nat.mul_comm, Nat.mul_add_div hL]
  apply BitVec.eq_of_toNat_eq
  rw [Nat.mod_mul_right_div_self, hdiv]
  simp [BitVec.toNat_add]

theorem estimate_phase (L stamp q : Nat) : (stamp * L + q) % (L * 2 ^ 32) % L = q % L := by
  rw [Nat.mod_mul_right_mod, Nat.mul_comm, Nat.mul_add_mod]

theorem stepOf_estimate {s : State} (hL : 0 < s.config.stepLength) (m : Message) :
    s.stepOf (s.config.estimate m) =
      m.stampStep + BitVec.ofNat 32 ((m.stampPhase.toNat + s.config.correction m) / s.config.stepLength) := by
  rw [State.stepOf, NodeConfig.estimate, NodeConfig.timeModulus, Nat.add_assoc]
  exact estimate_step hL m.stampStep _

theorem phaseOf_estimate (s : State) (m : Message) :
    s.phaseOf (s.config.estimate m) = (m.stampPhase.toNat + s.config.correction m) % s.config.stepLength := by
  rw [State.phaseOf, NodeConfig.estimate, NodeConfig.timeModulus, Nat.add_assoc]
  exact estimate_phase _ _ _

/-! ### Adoption (R55 to R59) -/

theorem setTimebase_eq (s : State) (estimate : Nat) :
    s.setTimebase estimate =
      ({ s with
          table := s.table.map (restampTombstone (s.stepOf estimate))
          time :=
            { s.time with
              step := s.stepOf estimate, phase := s.phaseOf estimate, isSet := true, trimUsed := 0 } } : State).boundary :=
  rfl

/-- What a trim toward a lead of d ticks does, by the room that is left and by the end of the step (R58). -/
theorem trimBy_cases (s : State) (d : Nat) :
    let a := min d (s.config.trimBound - s.time.trimUsed)
    let trimmed := if a < d then (s.counters.bump .trim).bump .trimLimited else s.counters.bump .trim
    (a = 0 → s.trimBy d = { s with counters := s.counters.bump .trimLimited }) ∧
      (1 ≤ a → s.time.phase + a < s.config.stepLength →
        s.trimBy d =
          { s with
            counters := trimmed
            time := { s.time with phase := s.time.phase + a, trimUsed := s.time.trimUsed + a } }) ∧
      (1 ≤ a → s.config.stepLength ≤ s.time.phase + a →
        s.trimBy d =
          ({ s with
              counters := trimmed
              time :=
                { s.time with
                  step := s.time.step + 1, phase := s.time.phase + a - s.config.stepLength,
                  trimUsed := s.time.phase + a - s.config.stepLength } } : State).boundary) := by
  unfold State.trimBy
  dsimp only
  generalize min d (s.config.trimBound - s.time.trimUsed) = a
  refine ⟨fun h => if_pos h, fun h hlt => ?_, fun h hge => ?_⟩
  · rw [if_neg (Nat.ne_of_gt h), if_pos hlt]
    split <;> rfl
  · rw [if_neg (Nat.ne_of_gt h), if_neg (Nat.not_lt.mpr hge)]
    split <;> rfl

/-- The four ways to take a stamp of a set timebase, by its lead (R57 to R59). -/
theorem adopt_of_set {s : State} (hset : s.time.isSet = true) (m : Message) :
    s.adopt m =
      if s.lead m = 0 ∨ s.config.stepLength * 2 ^ 31 ≤ s.lead m then s
      else if s.config.stepLength ≤ 8 * s.lead m then s.jumpTo (s.config.estimate m)
      else if s.lead m ≤ s.config.tolerance then s
      else s.trimBy (s.lead m) := by
  unfold State.adopt
  rw [hset, if_neg (by simp)]

theorem adopt_of_unset {s : State} (hunset : s.time.isSet = false) (m : Message) :
    s.adopt m = s.setTimebase (s.config.estimate m) := by
  unfold State.adopt
  rw [hunset, if_pos (by simp)]

theorem jumpTo_of_same {s : State} {estimate : Nat} (h : s.stepOf estimate = s.time.step) :
    s.jumpTo estimate =
      { s with counters := s.counters.bump .jump, time := { s.time with phase := s.phaseOf estimate } } :=
  if_pos h

theorem jumpTo_of_other {s : State} {estimate : Nat} (h : s.stepOf estimate ≠ s.time.step) :
    s.jumpTo estimate =
      ({ s with
          counters := s.counters.bump .jump
          time :=
            { s.time with step := s.stepOf estimate, phase := s.phaseOf estimate, trimUsed := 0 } } : State).boundary :=
  if_neg h

theorem stampUsable_iff (s : State) (m : Message) :
    s.stampUsable m = true ↔
      s.senderCompatible m.origin = true ∧ m.transit ≠ 65535#16 ∧ m.stampPhase.toNat < s.config.stepLength := by
  have htransit : m.transit.toNat < 65535 ↔ m.transit ≠ 65535#16 := by bv_omega
  rw [State.stampUsable, Bool.and_eq_true, Bool.and_eq_true, decide_eq_true_eq, decide_eq_true_eq, htransit, and_assoc]

theorem lead_eq (s : State) (m : Message) :
    s.lead m =
      ((m.stampStep.toNat * s.config.stepLength + m.stampPhase.toNat +
          (m.transit.toNat + airTime m.length + s.config.linkAllowance)) % (s.config.stepLength * 2 ^ 32) +
        s.config.stepLength * 2 ^ 32 - (s.time.step.toNat * s.config.stepLength + s.time.phase)) %
        (s.config.stepLength * 2 ^ 32) := by
  rw [State.lead, NodeConfig.estimate, NodeConfig.timeModulus, NodeConfig.correction, State.ownTicks]

/-- Settles O40, by the lead of the stamp. -/
theorem adoptionMovesTheTime : Obligations.AdoptionMovesTheTime := by
  unfold Obligations.AdoptionMovesTheTime
  refine ⟨fun s m hL hphase => ?_, fun s m => ⟨fun h => ?_, fun horigin hpart hcompatible htransit hstamp => ?_⟩⟩
  · have hpos : 0 < s.config.stepLength := by omega
    have hstep := stepOf_estimate hpos m
    have hphaseOf := phaseOf_estimate s m
    rw [NodeConfig.correction] at hstep hphaseOf
    intro L t estimate own d room a step phase trimmed
    have hd : s.lead m = d := lead_eq s m
    clear_value d
    subst hd
    obtain ⟨hnone, hwithin, hover⟩ := trimBy_cases s (s.lead m)
    refine ⟨fun hunset => ?_, fun hset => ?_⟩
    · rw [adopt_of_unset hunset, setTimebase_eq, hstep, hphaseOf]
      congr 2
      refine List.map_congr_left fun slot _ => ?_
      cases slot <;> rfl
    · rw [adopt_of_set hset]
      refine ⟨fun h => if_pos h, fun hahead hbehind => ?_⟩
      have hlead : ¬ (s.lead m = 0 ∨ s.config.stepLength * 2 ^ 31 ≤ s.lead m) := by
        rintro (h | h)
        · exact absurd hahead (by rw [h]; exact Nat.not_succ_le_zero 0)
        · exact absurd hbehind (Nat.not_lt.mpr h)
      rw [if_neg hlead]
      refine ⟨fun hfar => ?_, fun hnear hsmall => ?_, fun hnear hlarge => ?_⟩
      · rw [if_pos hfar]
        refine ⟨fun heq => ?_, fun hne => ?_⟩
        · rw [jumpTo_of_same (hstep.trans heq), hphaseOf]
        · rw [jumpTo_of_other fun h => hne (hstep.symm.trans h), hstep, hphaseOf]
      · rw [if_neg (Nat.not_le.mpr hnear), if_pos hsmall]
      · rw [if_neg (Nat.not_le.mpr hnear), if_neg (Nat.not_le.mpr hlarge)]
        exact ⟨hnone, hwithin, hover⟩
  · refine if_neg ?_
    rw [stampUsable_iff]
    rintro ⟨horigin, -, hcompatible, htransit, hstamp⟩
    rcases h with h | h | h | h
    · exact horigin h
    · exact Bool.noConfusion (h.symm.trans hcompatible)
    · exact htransit h
    · exact absurd hstamp (Nat.not_lt.mpr h)
  · exact if_pos ⟨horigin, hpart, (stampUsable_iff s m).mpr ⟨hcompatible, htransit, hstamp⟩⟩

end Sys2Proof.Machine
end

section
/-! PROOFS. The filter of the sampled lines and the actions a sample fires (R83 to R88). -/

namespace Sys2Proof.Machine

/-! ### One input (R83, R84) -/

/-- The edge that a line makes when it differs from the filtered level (R84). -/
def lineEdge (line : Bool) : Edge := if line then .rise else .fall

theorem edge_eq (x : TriggerInput) (line : Bool) :
    x.edge line = if line ≠ x.level ∧ 3 ≤ x.count then some (lineEdge line) else none := by
  unfold TriggerInput.edge lineEdge
  by_cases hlevel : line = x.level
  · rw [if_pos hlevel, if_neg fun h => h.1 hlevel]
  · by_cases hcount : x.count < 3
    · rw [if_neg hlevel, if_pos hcount, if_neg fun h => Nat.not_le.mpr hcount h.2]
    · have hmade : line ≠ x.level ∧ 3 ≤ x.count := ⟨hlevel, Nat.not_lt.mp hcount⟩
      rw [if_neg hlevel, if_neg hcount, if_pos hmade]

theorem afterSample_eq (x : TriggerInput) (line : Bool) (t : Timebase) :
    x.afterSample line t =
      if line = x.level then { x with count := 0 }
      else if x.count < 3 then { x with count := x.count + 1 }
      else { level := line, count := 0, capture := some (t.capture (lineEdge line)) } := by
  unfold TriggerInput.afterSample TriggerInput.sample TriggerInput.edge lineEdge
  by_cases hlevel : line = x.level
  · simp only [if_pos hlevel]
  · by_cases hcount : x.count < 3
    · simp only [if_neg hlevel, if_pos hcount]
    · simp only [if_neg hlevel, if_neg hcount]

/-! ### The actions of a sample (R87, R88) -/

theorem flatMap_filterMap_id {α β : Type} (l : List (Option α)) (g : α → List β) :
    (l.filterMap id).flatMap g = l.flatMap fun o => (o.map g).getD [] := by
  induction l with
  | nil => rfl
  | cons o rest ih =>
    cases o with
    | none => exact ih
    | some a => rw [List.flatMap_cons, ← ih]; rfl

theorem firedActions_eq (s : State) (levels : BitVec 8) :
    s.firedActions levels =
      s.trigger.inputs.zipIdx.flatMap fun xi =>
        if levels.getLsbD xi.2 ≠ xi.1.level ∧ 3 ≤ xi.1.count then
          (s.config.fired xi.2 (lineEdge (levels.getLsbD xi.2))).map fun b =>
            (b, s.time.capture (lineEdge (levels.getLsbD xi.2)))
        else [] := by
  rw [State.firedActions, TriggerUnit.edges, flatMap_filterMap_id, List.mapIdx_eq_zipIdx_map, List.flatMap_map]
  congr 1
  funext ⟨x, i⟩
  dsimp only
  rw [edge_eq]
  split <;> rfl

/-- A sample with no boundary between: the actions follow the capture at once (R88). -/
theorem sampleLines_direct {s : State} {between : Bool} (levels : BitVec 8)
    (h : between = false ∨ s.time.running = false ∨ s.time.phase + 1 < s.config.stepLength) :
    s.sampleLines levels between = (s.takeSample levels).takeActions (s.firedActions levels) := by
  have hno : ¬ (between && s.time.running && decide (s.config.stepLength ≤ s.time.phase + 1)) = true := by
    rw [Bool.and_eq_true, Bool.and_eq_true, decide_eq_true_eq]
    rintro ⟨⟨hbetween, hrunning⟩, hend⟩
    rcases h with h | h | h
    · exact Bool.noConfusion (h.symm.trans hbetween)
    · exact Bool.noConfusion (h.symm.trans hrunning)
    · exact absurd hend (Nat.not_le.mpr h)
  rw [State.sampleLines, if_neg hno]

/-- A sample with the ordinary boundary of its moment between capture and admission (R92). -/
theorem sampleLines_between {s : State} (levels : BitVec 8) (hrunning : s.time.running = true)
    (hend : s.config.stepLength ≤ s.time.phase + 1) :
    s.sampleLines levels true =
      (s.takeSample levels).clockMoments.passTick.settle.takeActions (s.firedActions levels) := by
  rw [State.sampleLines, if_pos (by rw [hrunning, decide_eq_true hend]; rfl)]

/-- Settles O41, by the branches of the filter and of the capture. -/
theorem samplesAreFiltered : Obligations.SamplesAreFiltered := by
  unfold Obligations.SamplesAreFiltered
  refine ⟨fun field edge => ?_, sampleDue_iff, fun s levels between hquiet => ?_⟩
  · cases field <;> cases edge <;> simp [BindingEdge.answers]
  · have hexec : exec (.triggerSample levels between) s =
        .next (if s.sampleDue then s.sampleLines levels between else s) := by
      change execTriggerSample levels between s = _
      rw [execTriggerSample, settle_of_quiet s hquiet]
    refine ⟨fun hnot => ?_, fun hdue => ?_⟩
    · rw [hexec, hnot, if_neg Bool.false_ne_true]
    · intro kind capture sampled actions act
      have hsampled : s.takeSample levels = sampled := by
        rw [State.takeSample, funext fun i => funext fun x => afterSample_eq x (levels.getLsbD i) s.time]
        rfl
      have hactions : s.firedActions levels = actions := firedActions_eq s levels
      refine ⟨fun h => ?_, fun hbetween hrunning hend => ?_⟩
      · rw [hexec, if_pos hdue, sampleLines_direct levels h, hsampled, hactions]
        rfl
      · rw [hexec, if_pos hdue, hbetween, sampleLines_between levels hrunning hend, hsampled, hactions]
        rfl

end Sys2Proof.Machine
end

section
/-! PROOFS. What the roster takes from a message (R139 to R145), and which slot the table yields (R6, R10). -/

namespace Sys2Proof.Machine

/-! ### The roster (R139 to R145) -/

theorem compatible_false_iff (p : Peer) (own : Nat) :
    p.compatible own = false ↔ ∃ l, p.stepLength = some l ∧ l.toNat ≠ own := by
  unfold Peer.compatible
  cases p.stepLength with
  | none => simp
  | some l => simp

theorem senderCompatible_false_iff (s : State) (o : NodeId) :
    s.senderCompatible o = false ↔
      ∃ p l, s.peer o = some p ∧ p.stepLength = some l ∧ l.toNat ≠ s.config.stepLength := by
  unfold State.senderCompatible
  cases s.peer o with
  | none => simp
  | some p => simp [compatible_false_iff]

theorem announces_iff (m : Message) :
    m.announces = true ↔ (m.kind = 1#4 ∧ m.payload.length = 16) ∨ (m.kind = 2#4 ∧ m.payload.length = 6) := by
  rw [Message.announces, Bool.and_eq_true, Bool.or_eq_true, beq_iff_eq, beq_iff_eq, lengthAllowed_iff]
  constructor
  · rintro ⟨hkind | hkind, h⟩
    · exact .inl ⟨hkind, by simpa [hkind] using h⟩
    · exact .inr ⟨hkind, by simpa [hkind] using h⟩
  · rintro (h | h)
    · exact ⟨.inl h.1, .inl h⟩
    · exact ⟨.inr h.1, .inr (.inl h)⟩

/-- An entry put among entries of other ids is the one found under its id. -/
theorem find?_insertPeer {p : Peer} {o : NodeId} {l : List Peer} (hid : p.id = o) (hother : ∀ x ∈ l, x.id ≠ o) :
    (insertPeer p l).find? (fun x => x.id == o) = some p := by
  have hmem : p ∈ insertPeer p l := mem_insertPeer.mpr (.inl rfl)
  have hfound : ((insertPeer p l).find? fun x => x.id == o).isSome := List.find?_isSome.mpr ⟨p, hmem, by simp [hid]⟩
  obtain ⟨x, hx⟩ := Option.isSome_iff_exists.mp hfound
  rcases mem_insertPeer.mp (List.mem_of_find?_eq_some hx) with rfl | hin
  · exact hx
  · exact absurd (by simpa using List.find?_some hx) (hother x hin)

theorem rosterTake_of_other {s : State} {m : Message} (h : m.origin ≠ s.ownId) :
    s.rosterTake m = { s with roster := insertPeer (s.peerAfter m) (removePeer m.origin s.roster) } :=
  if_neg h

/-- Settles O46: the entry put back in its place is the only one of its id. -/
theorem rosterTakesMessages : Obligations.RosterTakesMessages := by
  unfold Obligations.RosterTakesMessages
  refine fun s m => ⟨compatible_false_iff, senderCompatible_false_iff s, fun h => if_pos h, fun hother => ?_⟩
  intro fresh entry base count interval announced
  have hentry : s.peerAfter m = announced := by
    unfold State.peerAfter
    have hrejoins : m.rejoins = true ↔ m.kind = 2#4 := by rw [Message.rejoins, beq_iff_eq]
    simp only [announces_iff, hrejoins]
    rfl
  have hroster : (s.rosterTake m).roster = insertPeer announced (removePeer m.origin s.roster) := by
    rw [rosterTake_of_other hother, hentry]
  obtain ⟨hid, -⟩ := peerAfter_place s m
  rw [hentry] at hid
  refine ⟨?_, ?_, ?_⟩
  · rw [hroster, rosterTake_of_other hother, hentry]
  · rw [hroster]
    exact insertPeer_perm _ _
  · rw [hroster]
    exact find?_insertPeer hid fun x hx => removePeer_id_ne hx

/-! ### Step order (R6) -/

theorem stepAtOrAfter_iff (a b : StepNo) : stepAtOrAfter a b = true ↔ (a - b).toNat < 2 ^ 31 := by
  rw [stepAtOrAfter, decide_eq_true_eq]

theorem stepAfter_iff (a b : StepNo) : stepAfter a b = true ↔ (a - b).toNat < 2 ^ 31 ∧ a ≠ b := by
  rw [stepAfter, Bool.and_eq_true, stepAtOrAfter_iff, bne_iff_ne]

/-! ### A slot for a new key (R10) -/

theorem isFree_iff (slot : Slot) : slot.isFree = true ↔ slot = .free := by
  cases slot <;> simp [Slot.isFree]

theorem oldestTombstoneFrom_some_tombstone (k : Nat) (b : Nat × StepNo) (t : Tombstone) (rest : List Slot) :
    oldestTombstoneFrom k (some b) (.tombstone t :: rest) =
      oldestTombstoneFrom (k + 1) (some (if stepBefore t.step b.2 then (k, t.step) else b)) rest := by
  rw [oldestTombstoneFrom]
  split <;> rfl

theorem oldestTombstoneFrom_bound {i : Nat} {σ : StepNo} :
    ∀ {table : List Slot} {k : Nat} {best : Option (Nat × StepNo)},
      oldestTombstoneFrom k best table = some (i, σ) → best = some (i, σ) ∨ i < k + table.length
  | [], _, _, h => .inl h
  | slot :: rest, k, best, h => by
    have hnext : ∀ {b}, oldestTombstoneFrom (k + 1) b rest = some (i, σ) →
        b = some (i, σ) ∨ i < k + (slot :: rest).length := fun h =>
      (oldestTombstoneFrom_bound h).imp_right fun h => by rw [List.length_cons]; omega
    have hhere : ∀ {τ}, some (k, τ) = some (i, σ) → i < k + (slot :: rest).length := fun h => by
      obtain ⟨rfl, -⟩ := Prod.mk.inj (Option.some.inj h)
      exact Nat.lt_add_of_pos_right (Nat.succ_pos _)
    cases slot with
    | free => exact hnext h
    | live e => exact hnext h
    | tombstone t =>
      cases best with
      | none => exact .inr ((hnext h).elim hhere id)
      | some b =>
        rw [oldestTombstoneFrom_some_tombstone] at h
        split at h
        · exact .inr ((hnext h).elim hhere id)
        · exact hnext h

/-- The best so far stays the best when no later tombstone is before it. -/
theorem oldestTombstoneFrom_of_best {j : Nat} {σ : StepNo} :
    ∀ {table : List Slot} {k : Nat}, (∀ u, Slot.tombstone u ∈ table → stepBefore u.step σ = false) →
      oldestTombstoneFrom k (some (j, σ)) table = some (j, σ)
  | [], _, _ => rfl
  | slot :: rest, k, h => by
    have hrest : oldestTombstoneFrom (k + 1) (some (j, σ)) rest = some (j, σ) :=
      oldestTombstoneFrom_of_best fun u hu => h u (.tail _ hu)
    cases slot with
    | free => exact hrest
    | live e => exact hrest
    | tombstone t =>
      rw [oldestTombstoneFrom_some_tombstone, h t (.head _)]
      exact hrest

/-- A tombstone before the best so far and every earlier one, with none of the later ones before it, is the oldest. -/
theorem oldestTombstoneFrom_eq {t : Tombstone} :
    ∀ {table : List Slot} {i k : Nat} {best : Option (Nat × StepNo)}, table[i]? = some (.tombstone t) →
      (∀ b ∈ best, stepBefore t.step b.2 = true) →
      (∀ j u, j < i → table[j]? = some (.tombstone u) → stepBefore t.step u.step = true) →
      (∀ j u, i ≤ j → table[j]? = some (.tombstone u) → stepBefore u.step t.step = false) →
      oldestTombstoneFrom k best table = some (k + i, t.step)
  | [], _, _, _, h, _, _, _ => by simp at h
  | slot :: rest, 0, k, best, h, hbest, _, hlater => by
    obtain rfl : slot = .tombstone t := by simpa using h
    have hrest : oldestTombstoneFrom (k + 1) (some (k, t.step)) rest = some (k + 0, t.step) :=
      oldestTombstoneFrom_of_best fun u hu => by
        obtain ⟨j, hj⟩ := List.mem_iff_getElem?.mp hu
        exact hlater (j + 1) u (Nat.zero_le _) hj
    cases best with
    | none => exact hrest
    | some b =>
      rw [oldestTombstoneFrom_some_tombstone, if_pos (hbest b rfl)]
      exact hrest
  | slot :: rest, i + 1, k, best, h, hbest, hearlier, hlater => by
    have hrest : ∀ b, (∀ x ∈ b, stepBefore t.step x.2 = true) →
        oldestTombstoneFrom (k + 1) b rest = some (k + (i + 1), t.step) := fun b hb => by
      rw [← Nat.add_assoc, Nat.add_right_comm]
      exact oldestTombstoneFrom_eq h hb (fun j u hj => hearlier (j + 1) u (Nat.succ_lt_succ hj))
        fun j u hj => hlater (j + 1) u (Nat.succ_le_succ hj)
    cases slot with
    | free => exact hrest _ hbest
    | live e => exact hrest _ hbest
    | tombstone u =>
      have hhead := hrest (some (k, u.step)) (by simpa using hearlier 0 u (Nat.succ_pos i) rfl)
      cases best with
      | none => exact hhead
      | some b =>
        rw [oldestTombstoneFrom_some_tombstone]
        split
        · exact hhead
        · exact hrest _ hbest

theorem oldestTombstoneFrom_of_live :
    ∀ {table : List Slot} {k : Nat}, (∀ slot ∈ table, ∃ e, slot = .live e) → oldestTombstoneFrom k none table = none
  | [], _, _ => rfl
  | slot :: rest, k, h => by
    obtain ⟨e, rfl⟩ := h slot (.head _)
    exact oldestTombstoneFrom_of_live (table := rest) fun x hx => h x (.tail _ hx)

theorem obtainSlot_of_no_free {table : List Slot} (h : ∀ slot ∈ table, slot ≠ .free) :
    obtainSlot table = oldestTombstone table := by
  have hnone : table.findIdx? Slot.isFree = none :=
    List.findIdx?_eq_none_iff.mpr fun x hx => Bool.eq_false_iff.mpr fun hfree => h x hx ((isFree_iff x).mp hfree)
  rw [obtainSlot, hnone]

theorem obtainSlot_lt {table : List Slot} {i : Nat} (h : obtainSlot table = some i) : i < table.length := by
  unfold obtainSlot at h
  split at h
  case h_1 j hj =>
    obtain rfl := Option.some.inj h
    exact (List.findIdx?_eq_some_iff_findIdx_eq.mp hj).1
  case h_2 =>
    obtain ⟨⟨j, σ⟩, hfrom, rfl⟩ := Option.map_eq_some_iff.mp h
    simpa using oldestTombstoneFrom_bound hfrom

theorem obtainSlot_of_free {table : List Slot} {i : Nat} (h : table[i]? = some .free)
    (hfirst : ∀ j < i, table[j]? ≠ some .free) : obtainSlot table = some i := by
  obtain ⟨hlt, hi⟩ := List.getElem?_eq_some_iff.mp h
  have hfound : table.findIdx? Slot.isFree = some i :=
    List.findIdx?_eq_some_iff_getElem.mpr ⟨hlt, (isFree_iff _).mpr hi, fun j hj hfree =>
      hfirst j hj (List.getElem?_eq_some_iff.mpr ⟨hj.trans hlt, (isFree_iff _).mp hfree⟩)⟩
  rw [obtainSlot, hfound]

/-- Settles O47, by the scan for the oldest tombstone. -/
theorem slotChoice : Obligations.SlotChoice := by
  unfold Obligations.SlotChoice
  refine ⟨fun a b => ⟨stepAtOrAfter_iff a b, stepAfter_iff a b, ?_⟩, fun table now _ =>
    ⟨fun i => obtainSlot_lt, fun i => obtainSlot_of_free, fun hfull => ⟨fun i t hi holdest => ?_, fun hlive => ?_⟩⟩⟩
  · rw [stepBefore, stepAfter_iff, ne_comm]
  · rw [obtainSlot_of_no_free hfull, oldestTombstone]
    have holdestFrom : oldestTombstoneFrom 0 none table = some (0 + i, t.step) := by
      refine oldestTombstoneFrom_eq hi (by simp) (fun j u hj hu => ?_) fun j u _ hu => ?_
      · obtain ⟨hafter, hequal⟩ := holdest j u hu
        rw [stepBefore, stepAfter_iff]
        exact ⟨(stepAtOrAfter_iff _ _).mp hafter, fun h => absurd (hequal h) (Nat.not_le.mpr hj)⟩
      · obtain ⟨hafter, -⟩ := holdest j u hu
        exact Bool.eq_false_iff.mpr fun h => Bool.noConfusion (hafter.symm.trans (stepAtOrAfter_of_stepBefore h))
    rw [holdestFrom, Option.map_some, Nat.zero_add]
  · rw [obtainSlot_of_no_free hfull, oldestTombstone, oldestTombstoneFrom_of_live hlive]
    rfl

end Sys2Proof.Machine
end

section
/-! PROOFS. The judging of CUE and RELEASE content (R3 to R5, R13 to R19). -/

namespace Sys2Proof.Machine

/-! ### Revision order (R5) -/

theorem revisionOrder_same {a b : Revision} (h : (a - b).toNat = 0) : revisionOrder a b = .same := if_pos h

theorem revisionOrder_newer {a b : Revision} (hpos : 1 ≤ (a - b).toNat) (h : (a - b).toNat ≤ 7) :
    revisionOrder a b = .newer := by
  rw [revisionOrder, if_neg (Nat.ne_of_gt hpos), if_pos h]

theorem revisionOrder_stale {a b : Revision} (h : 8 ≤ (a - b).toNat) : revisionOrder a b = .stale := by
  rw [revisionOrder, if_neg (by omega), if_neg (by omega)]

/-- A revision no distance from the held one is the held one (R5). -/
theorem eq_of_sub_zero {a b : Revision} (h : (a - b).toNat = 0) : a = b := by bv_omega

/-! ### A CUE, judged (R13 to R17) -/

/-- The CUE or RELEASE changes nothing but the counter of its judgement. -/
def State.counted (s : State) (k : Counter) : State := { s with counters := s.counters.bump k }

theorem storeCueAt_eq (s : State) (i : Nat) (c : Cue) (k : Counter) :
    s.storeCueAt i c k =
      { s with
        table := s.table.set i (.live (s.newEntry c))
        counters := if s.cueLate c then (s.counters.bump k).bump .late else s.counters.bump k
        responder := if s.cueLate c then { s.responder with lateSeen := true } else s.responder } := by
  unfold State.storeCueAt
  cases s.cueLate c <;> rfl

theorem owns_eq_decide (k : NodeConfig) (first last : Channel) :
    k.owns first last =
      decide (first.toNat < k.channelBase + k.channelCount ∧ k.channelBase ≤ last.toNat ∧ 0 < k.channelCount) := by
  rw [NodeConfig.owns, rangeMeets, ← Bool.decide_and, ← Bool.decide_and]
  exact decide_eq_decide.mpr (by omega)

theorem cueExpired_eq (s : State) (c : Cue) :
    s.cueExpired c = (s.time.isSet && (c.stop.map fun e => !stepAfter e s.time.step).getD false) := by
  unfold State.cueExpired
  cases c.stop <;> rfl

section
variable {s : State} {c : Cue} {i : Nat}

theorem takeCue_of_incompatible : s.takeCue c false = (.incompatible, s.counted .incompatible) := rfl

theorem takeCue_of_new (hnew : findKey s.table c.origin c.number = none) :
    s.takeCue c true =
      if !s.config.owns c.first c.last then (.outside, s.counted .outside)
      else if s.cueExpired c then (.expired, s.counted .expired)
      else
        match obtainSlot s.table with
        | none => (.refused, s.refuseContent)
        | some i => (.admitted, s.storeCueAt i c .admitted) := by
  rw [State.takeCue, hnew]
  rfl

theorem takeCue_of_expired (hheld : findKey s.table c.origin c.number = some i) (hexpired : s.cueExpired c = true) :
    s.takeCue c true = (.expired, s.counted .expired) := by
  rw [State.takeCue, hheld]
  exact if_pos hexpired

/-- An unexpired CUE of a held key is judged by the revision that the slot holds (R16). -/
theorem takeCue_of_held (hheld : findKey s.table c.origin c.number = some i) (hexpired : s.cueExpired c = false) :
    s.takeCue c true =
      match revisionOrder c.revision (s.table.getD i .free).revision with
      | .same => (.duplicate, s.counted .duplicate)
      | .stale => (.stale, s.counted .stale)
      | .newer =>
        if s.config.owns c.first c.last then (.replaced, s.storeCueAt i c .replaced)
        else
          (.outside,
            { s with
              table := s.table.set i
                (.tombstone { origin := c.origin, number := c.number, revision := c.revision, step := s.time.step })
              counters := s.counters.bump .outside }) := by
  rw [State.takeCue, hheld]
  change (if s.cueExpired c = true then _ else _) = _
  rw [if_neg (by rw [hexpired]; exact Bool.false_ne_true)]
  rfl

end

theorem slot_revision_eq (slot : Slot) :
    slot.revision =
      match slot with
      | .free => 0
      | .live e => e.cue.revision
      | .tombstone t => t.revision := by
  cases slot <;> rfl

theorem cueContent_of_malformed {m : Message} {s : State} (h : cueOfPayload m.origin m.payload = none) :
    cueContent m s = (.malformed, s.counted .malformed) := by
  rw [cueContent, h]
  rfl

theorem cueContent_of_cue {m : Message} {s : State} {c : Cue} (h : cueOfPayload m.origin m.payload = some c) :
    cueContent m s =
      (if (s.takeCue c (s.senderCompatible m.origin)).1 = .refused then .refused else .taken,
        (s.takeCue c (s.senderCompatible m.origin)).2) := by
  rw [cueContent, h]
  rfl

/-- Settles O48, by the branches of R13 to R17. -/
theorem cuesAreJudged : Obligations.CuesAreJudged := by
  unfold Obligations.CuesAreJudged
  refine ⟨fun table o n => ?_, slot_revision_eq,
    fun s m => ⟨cueContent_of_malformed, fun c h => cueContent_of_cue h⟩, fun s c compatible => ?_⟩
  · intro key
    have hkey : ∀ slot : Slot, slot.key = key slot := fun slot => by cases slot <;> rfl
    refine ⟨fun i h => ?_, ?_⟩
    · obtain ⟨slot, hslot, h⟩ := findKey_some h
      exact ⟨slot, hslot, (hkey slot).symm.trans h⟩
    · rw [findKey_none]
      exact forall₂_congr fun slot _ => by rw [hkey]
  · intro expired late owned counted stored
    have hexpired : s.cueExpired c = expired := cueExpired_eq s c
    have howned : s.config.owns c.first c.last = owned := owns_eq_decide _ _ _
    have hstored : ∀ i k, s.storeCueAt i c k = stored i k := fun i k => storeCueAt_eq s i c k
    clear_value expired owned stored
    subst hexpired howned
    refine ⟨fun h => h ▸ takeCue_of_incompatible, ?_⟩
    rintro rfl
    refine ⟨fun hnew => ?_, fun i hheld => ⟨takeCue_of_expired hheld, fun hlive => ?_⟩⟩
    · rw [takeCue_of_new hnew]
      refine ⟨fun hout => ?_, fun hown hover => ?_, fun hown hopen => ⟨fun i hslot => ?_, fun hslot => ?_⟩⟩
      · rw [hout]
        rfl
      · rw [hown, hover]
        rfl
      · rw [hown, hopen, hslot, ← hstored]
        rfl
      · rw [hown, hopen, hslot]
        rfl
    · rw [takeCue_of_held hheld hlive]
      intro d
      refine ⟨fun h => ?_, fun h => ?_, fun hpos h hown => ?_, fun hpos h hout => ?_⟩
      · rw [revisionOrder_same h]
        rfl
      · rw [revisionOrder_stale h]
        rfl
      · rw [revisionOrder_newer hpos h, hown, ← hstored]
        rfl
      · rw [revisionOrder_newer hpos h, hout]
        rfl

/-! ### A RELEASE, judged (section 1.5, R19) -/

section
variable {s : State} {o : NodeId} {n : Byte} {r : Revision} {f : FadeOut} {i : Nat}

theorem takeRelease_of_new (hnew : findKey s.table o n = none) :
    s.takeRelease o n r f true =
      match obtainSlot s.table with
      | none => (.refused, s.refuseContent)
      | some i =>
        (.admitted,
          { s with
            table := s.table.set i (.tombstone { origin := o, number := n, revision := r, step := s.time.step })
            counters := s.counters.bump .admitted }) := by
  rw [State.takeRelease, hnew]
  rfl

theorem takeRelease_of_live {e : LiveEntry} (hheld : findKey s.table o n = some i)
    (hlive : s.table[i]? = some (.live e)) :
    s.takeRelease o n r f true =
      match revisionOrder r e.cue.revision with
      | .stale => (.stale, s.counted .stale)
      | .same =>
        if e.release = some f then (.duplicate, s.counted .duplicate)
        else
          (.replaced,
            { s with
              table := s.table.set i (.live { e with release := some f })
              counters := s.counters.bump .replaced })
      | .newer =>
        (.replaced,
          { s with
            table := s.table.set i (.live { e with release := some f, cue := { e.cue with revision := r } })
            counters := s.counters.bump .replaced }) := by
  have hslot : s.table.getD i .free = .live e := by rw [List.getD_eq_getElem?_getD, hlive]; rfl
  rw [State.takeRelease, hheld]
  dsimp only
  rw [hslot]
  rfl

theorem takeRelease_of_tombstone {t : Tombstone} (hheld : findKey s.table o n = some i)
    (htomb : s.table[i]? = some (.tombstone t)) :
    s.takeRelease o n r f true =
      match revisionOrder r t.revision with
      | .same => (.duplicate, s.counted .duplicate)
      | .stale => (.stale, s.counted .stale)
      | .newer =>
        (.replaced,
          { s with
            table := s.table.set i (.tombstone { origin := o, number := n, revision := r, step := s.time.step })
            counters := s.counters.bump .replaced }) := by
  have hslot : s.table.getD i .free = .tombstone t := by rw [List.getD_eq_getElem?_getD, htomb]; rfl
  rw [State.takeRelease, hheld]
  dsimp only
  rw [hslot]
  rfl

end

/-- Settles O49, by what the table holds under the key. -/
theorem releasesAreSettled : Obligations.ReleasesAreSettled := by
  unfold Obligations.ReleasesAreSettled
  refine ⟨fun s m => rfl, fun s o n r f compatible => ?_⟩
  intro counted put grave result
  refine ⟨?_, ?_⟩
  · rintro rfl
    rfl
  · rintro rfl
    refine ⟨fun hnew => ?_, fun i e hheld hlive => ?_, fun i t hheld htomb => ?_⟩
    · have hresult : result = _ := takeRelease_of_new hnew
      refine ⟨fun i hslot => ?_, fun hslot => ?_⟩
      · rw [hresult, hslot]
      · rw [hresult, hslot]
        rfl
    · have hresult : result = _ := takeRelease_of_live hheld hlive
      rw [hresult]
      intro d
      refine ⟨fun h => ?_, fun h hsame => ?_, fun h hnews => ?_⟩
      · rw [revisionOrder_stale h]
        rfl
      · rw [revisionOrder_same h]
        exact if_pos hsame
      · rcases Nat.eq_zero_or_pos d with hzero | hpos
        · have hother : e.release ≠ some f := hnews.resolve_left (by rw [hzero]; exact Nat.not_succ_le_zero 0)
          obtain rfl := eq_of_sub_zero hzero
          rw [revisionOrder_same hzero]
          exact if_neg hother
        · rw [revisionOrder_newer hpos h]
    · have hresult : result = _ := takeRelease_of_tombstone hheld htomb
      rw [hresult]
      intro d
      refine ⟨fun h => ?_, fun h => ?_, fun hpos h => ?_⟩
      · rw [revisionOrder_stale h]
        rfl
      · rw [revisionOrder_same h]
        rfl
      · rw [revisionOrder_newer hpos h]

end Sys2Proof.Machine
end

section
/-! PROOFS. CLEAR, the purge and the orphan drop (R20 to R22, R106), and the judging and answering of requests (R124,
R178 to R184). -/

namespace Sys2Proof.Machine

/-! ### CLEAR, purge, drop (R20 to R22) -/

theorem clearSlot_eq (o : NodeId) (clearStep now : StepNo) (atOnce : Bool) (slot : Slot) :
    clearSlot o clearStep now atOnce slot =
      match slot with
      | .live e =>
        if e.cue.origin = o then
          if atOnce then e.entomb now
          else if (e.cue.stop.map fun x => stepAfter x clearStep).getD true then
            .live { e with cue := { e.cue with stop := some clearStep } }
          else .live e
        else .live e
      | other => other := by
  cases slot with
  | free => rfl
  | tombstone t => rfl
  | live e =>
    unfold clearSlot
    dsimp only
    rw [ite_not]
    cases e.cue.stop <;> rfl

theorem takeClear_of_compatible (s : State) (o : NodeId) (clearStep : StepNo) :
    s.takeClear o clearStep true =
      { s with
        table := s.table.map
          (clearSlot o clearStep s.time.step (s.time.isSet && stepAtOrAfter s.time.step clearStep)) } :=
  rfl

theorem templateMeets_eq (k : NodeConfig) (t base count : Nat) :
    k.templateMeets t base count =
      ((k.template t).map fun tpl =>
        decide (0 < count ∧ tpl.first.toNat < base + count ∧ base ≤ tpl.last.toNat)).getD false := by
  unfold NodeConfig.templateMeets rangeMeets
  cases k.template t with
  | none => rfl
  | some tpl =>
    dsimp only
    rw [Option.map_some, Option.getD_some, ← Bool.decide_and, ← Bool.decide_and]
    exact decide_eq_decide.mpr and_assoc

theorem markForJoin_eq (s : State) (base count : Nat) :
    s.markForJoin base count =
      { s with
        origins := s.origins.mapIdx fun i o =>
          if o.state ≠ .idle ∧ s.config.templateMeets i base count = true then { o with replay := true } else o } := by
  unfold State.markForJoin
  congr 2
  funext i o
  unfold OriginSlot.mark
  by_cases hmeets : s.config.templateMeets i base count = true
  · by_cases hidle : o.state = .idle
    · rw [if_pos hmeets, if_pos hidle, if_neg fun h => h.1 hidle]
    · rw [if_pos hmeets, if_neg hidle, if_pos ⟨hidle, hmeets⟩]
  · rw [if_neg hmeets, if_neg fun h => hmeets h.2]

/-- Settles O50, slot by slot. -/
theorem clearPurgeAndDrop : Obligations.ClearPurgeAndDrop := by
  unfold Obligations.ClearPurgeAndDrop
  refine ⟨fun s m => ⟨rfl, fun h => if_pos h, fun h => ?_⟩, fun s o clearStep => ⟨rfl, ?_, ?_, ?_⟩⟩
  · rw [joinContent, if_neg h, markForJoin_eq]
    simp only [templateMeets_eq]
    rfl
  · rw [takeClear_of_compatible]
    congr 2
    funext slot
    simp only [clearSlot_eq, Bool.and_eq_true]
    cases slot <;> rfl
  · unfold State.purgeOrigin
    congr 2
    funext slot
    cases slot <;> simp [Slot.origin?]
  · unfold State.dropOrphans
    congr 2
    funext slot
    cases slot <;> rfl

/-! ### The judging of a REQUEST (R124, R178) -/

/-- The selector that a code names, by its number (R189). -/
theorem Selector.ofCode_of_known {c : Byte} (h : 1 ≤ c.toNat ∧ c.toNat ≤ 7) :
    ∃ sel, Selector.ofCode c = some sel ∧
      (sel.acts = true ↔ c.toNat = 6 ∨ c.toNat = 7) ∧ (sel = .readChannel ↔ c.toNat = 5) ∧
      ∀ i, sel.indexInRange i = true ↔
        (c.toNat = 1 → i ≤ 24) ∧ (c.toNat = 2 → i ≤ 3) ∧ (c.toNat = 3 → i ≤ 47 ∨ (64 ≤ i ∧ i ≤ 111)) ∧
          (c.toNat = 4 → i ≤ 61) ∧ (c.toNat = 5 → i ≤ 63) := by
  have hcases : c.toNat = 1 ∨ c.toNat = 2 ∨ c.toNat = 3 ∨ c.toNat = 4 ∨ c.toNat = 5 ∨ c.toNat = 6 ∨ c.toNat = 7 := by
    omega
  unfold Selector.ofCode
  rcases hcases with hc | hc | hc | hc | hc | hc | hc <;> rw [hc] <;>
    exact ⟨_, rfl, by simp [Selector.acts], by simp, fun i => by simp [Selector.indexInRange]⟩

theorem Selector.ofCode_of_unknown {c : Byte} (h : ¬ (1 ≤ c.toNat ∧ c.toNat ≤ 7)) : Selector.ofCode c = none := by
  unfold Selector.ofCode
  split
  case h_8 => rfl
  all_goals omega

section
variable {s : State} {m : Message}

theorem judgeRequest_of_broadcast (h : m.target = 63#6) :
    s.judgeRequest m =
      match Selector.ofCode (byteAt m.payload 0) with
      | some sel => if sel.acts then .acted else .ignored
      | none => .ignored :=
  if_pos h

theorem judgeRequest_of_own (hbroadcast : m.target ≠ 63#6) (h : m.target = s.ownId) :
    s.judgeRequest m =
      match Selector.ofCode (byteAt m.payload 0) with
      | none => .answered .badSelector
      | some sel =>
        if !sel.indexInRange (byteAt m.payload 1).toNat then .answered .badIndex
        else if sel = .readChannel ∧ !s.time.isSet then .answered .notReady
        else .acted :=
  (if_neg hbroadcast).trans (if_neg fun hother => hother h)

end

/-! ### The answering of a REQUEST (R179 to R184) -/

/-- An ANSWER is placed when the node sends its own messages and its send queue has room (R179). -/
def State.answerRoom (s : State) : Prop := s.controller.state.sendsOwn = true ∧ s.ring.sendQueue.length < 8

/-- The node after an ANSWER to m is placed (R179). -/
def State.answerPlaced (s : State) (m : Message) (result : Byte) (data : List Byte) : State :=
  { s with
    ring :=
      { s.ring with
        nextSequence := s.ring.nextSequence + 1
        sendQueue := s.ring.sendQueue ++
          [{ kind := .answer, sequence := s.ring.nextSequence, target := m.origin,
             payload := [m.sequence, byteAt m.payload 0, result] ++ data }] } }

theorem placeAnswer_of_room {s : State} (h : s.answerRoom) (m : Message) (r : ResultCode) (data : List Byte) :
    s.placeAnswer m r data = (some s.ring.nextSequence, s.answerPlaced m r.code data) := by
  obtain ⟨hsends, hroom⟩ := h
  exact if_pos (by rw [hsends, (queueRoom_iff s).mpr hroom]; rfl)

theorem placeAnswer_of_no_room {s : State} (h : ¬ s.answerRoom) (m : Message) (r : ResultCode) (data : List Byte) :
    s.placeAnswer m r data = (none, s.counted .answerLost) := by
  refine if_neg ?_
  rw [Bool.and_eq_true, queueRoom_iff]
  exact h

theorem requestContent_of_acted {s : State} {m : Message} (h : s.judgeRequest m = .acted)
    (act : Message → State → Nat → State) :
    requestContent act m s = (.taken, act m s (byteAt m.payload 1).toNat) := by
  rw [requestContent, h]

theorem requestRestart_of_sends {s : State} (h : s.controller.state.sendsOwn = true) (sequence : Byte) :
    s.requestRestart sequence =
      { s with
        controller := { s.controller with restartPending := some (s.controller.restartPending.getD sequence) } } := by
  have hclash : s.controller.state ≠ .clash := fun hstate => by rw [hstate] at h; exact Bool.noConfusion h
  unfold State.requestRestart
  cases hpending : s.controller.restartPending with
  | none => exact if_neg (by simp [hclash])
  | some x =>
    have hsame : ({ s.controller with restartPending := some x } : Controller) = s.controller := by rw [← hpending]
    rw [if_pos (.inr rfl), Option.getD_some, hsame]

theorem answerRestart_of_room {s : State} (h : s.answerRoom) (hended : s.due.listenEnded = false) (m : Message)
    (i : Nat) :
    answerRestart m s i =
      { s.answerPlaced m 0 [] with
        controller :=
          { s.controller with
            restartPending := some (s.controller.restartPending.getD s.ring.nextSequence) } } := by
  rw [answerRestart, if_neg (by rw [hended]; exact Bool.false_ne_true), placeAnswer_of_room h]
  exact requestRestart_of_sends (by exact h.1) _

theorem answerRestart_of_lost {s : State} (h : ¬ s.answerRoom ∨ s.due.listenEnded = true) (m : Message) (i : Nat) :
    answerRestart m s i = (s.counted .answerLost).performRestart := by
  rw [answerRestart]
  split
  · rfl
  case isFalse hended => rw [placeAnswer_of_no_room (h.resolve_right hended)]

/-- Settles O51, by the judgement of the request and the room for its answer. -/
theorem requestsAreJudgedAndAnswered : Obligations.RequestsAreJudgedAndAnswered := by
  unfold Obligations.RequestsAreJudgedAndAnswered
  refine ⟨fun s m => ?_, fun s m => ?_, doRestart_eq⟩
  · intro code i known inRange
    refine ⟨fun hall => ⟨fun hacts => ?_, fun h6 h7 => ?_⟩, fun hall hother => ?_, fun hall hown =>
      ⟨fun hunknown => ?_, fun hknown hout => ?_, fun h5 hin hunset => ?_, fun hknown hin hready => ?_⟩⟩
    · obtain ⟨sel, hsel, hacts', -⟩ := Selector.ofCode_of_known (c := byteAt m.payload 0) (by omega)
      rw [judgeRequest_of_broadcast hall, hsel]
      exact if_pos (hacts'.mpr hacts)
    · rw [judgeRequest_of_broadcast hall]
      by_cases hknown : known
      · obtain ⟨sel, hsel, hacts, -⟩ := Selector.ofCode_of_known hknown
        rw [hsel]
        exact if_neg fun h => (hacts.mp h).elim h6 h7
      · rw [Selector.ofCode_of_unknown hknown]
    · rw [State.judgeRequest, if_neg hall, if_pos hother]
    · rw [judgeRequest_of_own hall hown, Selector.ofCode_of_unknown hunknown]
    · obtain ⟨sel, hsel, -, -, hrange⟩ := Selector.ofCode_of_known hknown
      rw [judgeRequest_of_own hall hown, hsel]
      exact if_pos (by rw [Bool.eq_false_iff.mpr fun h => hout ((hrange i).mp h)]; rfl)
    · obtain ⟨sel, hsel, -, hchannel, hrange⟩ := Selector.ofCode_of_known (c := byteAt m.payload 0) (by omega)
      rw [judgeRequest_of_own hall hown, hsel]
      dsimp only
      rw [(hrange i).mpr hin, if_neg (by simp), if_pos ⟨hchannel.mpr h5, by rw [hunset]; rfl⟩]
    · obtain ⟨sel, hsel, -, hchannel, hrange⟩ := Selector.ofCode_of_known hknown
      rw [judgeRequest_of_own hall hown, hsel]
      dsimp only
      rw [(hrange i).mpr hin, if_neg (by simp), if_neg]
      rintro ⟨hsel5, hunset⟩
      have hset : s.time.isSet = true := hready.resolve_left fun h => h (hchannel.mp hsel5)
      rw [hset] at hunset
      exact Bool.noConfusion hunset
  · intro code i room placed lost cleared
    have hplaced : ∀ {t : State} (r : ResultCode) (data : List Byte), t.answerRoom →
        (t.placeAnswer m r data).2 = placed t r.code data := fun r data h =>
      congrArg Prod.snd (placeAnswer_of_room h m r data)
    have hlost : ∀ {t : State} (r : ResultCode) (data : List Byte), ¬ t.answerRoom →
        (t.placeAnswer m r data).2 = lost t := fun r data h =>
      congrArg Prod.snd (placeAnswer_of_no_room h m r data)
    refine ⟨fun h act => ?_, fun h act => ?_, fun r h act => ⟨fun hroom => ?_, fun hfull => ?_⟩, ⟨rfl, rfl, rfl, rfl⟩,
      fun h => ?_⟩
    · rw [requestContent, h]
    · rw [requestContent, h]
      rfl
    · rw [requestContent, h]
      exact congrArg _ (hplaced r [] hroom)
    · rw [requestContent, h]
      exact congrArg _ (hlost r [] hfull)
    · simp only [requestContent_of_acted h]
      refine ⟨fun data => ⟨fun hroom => ?_, fun hfull => ?_⟩, fun hroom => ?_, fun hfull => ?_, fun hroom hended => ?_,
        fun hnot hclash => ?_, fun hnot hstrips => ?_⟩
      · exact congrArg _ (hplaced .ok _ hroom)
      · exact congrArg _ (hlost .ok _ hfull)
      · exact congrArg _ (hplaced (t := cleared) .ok [] hroom)
      · exact congrArg _ (hlost (t := cleared) .ok [] hfull)
      · exact congrArg _ (answerRestart_of_room hroom hended m _)
      · rw [answerRestart_of_lost hnot]
        exact congrArg _ (performRestart_of_not_strips _ (by change s.controller.state.strips = false; rw [hclash]; rfl))
      · rw [answerRestart_of_lost hnot]
        exact congrArg _ (performRestart_of_strips _ (by exact hstrips))

end Sys2Proof.Machine
end

section
/-! PROOFS. The bytes of an ANSWER's data (R180 to R182, R185, R190). -/

namespace Sys2Proof.Machine

/-! ### Fields and flags of a byte -/

/-- A flag at its place in a byte. -/
def flagAt (b : Bool) (place : Byte) : Byte := if b then place else 0#8

theorem toNat_append_add {a b : Nat} (x : BitVec a) (y : BitVec b) : (x ++ y).toNat = x.toNat * 2 ^ b + y.toNat := by
  rw [BitVec.toNat_append, ← Nat.shiftLeft_add_eq_or_of_lt y.isLt, Nat.shiftLeft_eq]

theorem two_flags : ∀ a b : Bool, boolBit a ++ boolBit b ++ 0#6 = flagAt a 0x80#8 ||| flagAt b 0x40#8 := by decide

theorem three_flags : ∀ a b c : Bool,
    boolBit a ++ boolBit b ++ boolBit c ++ 0#5 = flagAt a 0x80#8 ||| flagAt b 0x40#8 ||| flagAt c 0x20#8 := by decide

theorem five_flags : ∀ a b c d e : Bool,
    boolBit a ++ boolBit b ++ boolBit c ++ boolBit d ++ boolBit e ++ 0#3 =
      flagAt a 0x80#8 ||| flagAt b 0x40#8 ||| flagAt c 0x20#8 ||| flagAt d 0x10#8 ||| flagAt e 0x08#8 := by decide

theorem seven_flags : ∀ a b c d e f g : Bool,
    boolBit a ++ boolBit b ++ boolBit c ++ boolBit d ++ boolBit e ++ boolBit f ++ boolBit g ++ 0#1 =
      flagAt a 0x80#8 ||| flagAt b 0x40#8 ||| flagAt c 0x20#8 ||| flagAt d 0x10#8 ||| flagAt e 0x08#8 |||
        flagAt f 0x04#8 ||| flagAt g 0x02#8 := by decide

theorem boolBit_getElem_zero : ∀ b : Bool, (boolBit b)[0] = b := by decide

/-- Bit i of eight flags, the highest first, is flag i. -/
theorem getLsbD_eight_flags (f : Nat → Bool) {i : Nat} (hi : i < 8) :
    (boolBit (f 7) ++ boolBit (f 6) ++ boolBit (f 5) ++ boolBit (f 4) ++ boolBit (f 3) ++ boolBit (f 2) ++
      boolBit (f 1) ++ boolBit (f 0)).getLsbD i = f i := by
  simp only [BitVec.getLsbD_append]
  interval_cases i <;> simp [boolBit_getElem_zero]

theorem zeros_append_six (x : BitVec 6) : 0#2 ++ x = x.setWidth 8 := by
  apply BitVec.eq_of_toNat_eq
  have := x.isLt
  rw [toNat_append_add, BitVec.toNat_setWidth]
  simp
  omega

theorem four_codes (a b c d : BitVec 2) :
    a ++ b ++ c ++ d = BitVec.ofNat 8 (64 * a.toNat + 16 * b.toNat + 4 * c.toNat + d.toNat) := by
  apply BitVec.eq_of_toNat_eq
  simp only [toNat_append_add, BitVec.toNat_ofNat]
  omega

theorem attempt_counts {a b c : Nat} (hb : b < 4) (hc : c < 4) :
    BitVec.ofNat 2 a ++ BitVec.ofNat 2 b ++ 0#2 ++ BitVec.ofNat 2 c = BitVec.ofNat 8 (64 * a + 16 * b + c) := by
  apply BitVec.eq_of_toNat_eq
  simp only [toNat_append_add, BitVec.toNat_ofNat]
  omega

theorem code_and_revision (a : BitVec 2) (r : Revision) : a ++ 0#2 ++ r = BitVec.ofNat 8 (64 * a.toNat + r.toNat) := by
  apply BitVec.eq_of_toNat_eq
  simp only [toNat_append_add, BitVec.toNat_ofNat]
  omega

theorem outcome_and_attempt (a : BitVec 4) {n : Nat} (hn : n < 4) :
    a ++ 0#2 ++ BitVec.ofNat 2 n = BitVec.ofNat 8 (16 * a.toNat + n) := by
  apply BitVec.eq_of_toNat_eq
  simp only [toNat_append_add, BitVec.toNat_ofNat]
  omega

theorem two_nibbles (a b : BitVec 4) : a ++ b = BitVec.ofNat 8 (16 * a.toNat + b.toNat) := by
  apply BitVec.eq_of_toNat_eq
  simp only [toNat_append_add, BitVec.toNat_ofNat]
  omega

theorem level_and_count : ∀ level : Bool, ∀ n < 4,
    boolBit level ++ 0#1 ++ BitVec.ofNat 2 n ++ 0#4 = flagAt level 0x80#8 ||| BitVec.ofNat 8 (16 * n) := by decide

theorem level_count_and_capture : ∀ level : Bool, ∀ n < 4, ∀ fall isSet : Bool,
    boolBit level ++ 0#1 ++ BitVec.ofNat 2 n ++ 1#1 ++ boolBit fall ++ boolBit isSet ++ 0#1 =
      flagAt level 0x80#8 ||| BitVec.ofNat 8 (16 * n) ||| 0x08#8 ||| flagAt fall 0x04#8 ||| flagAt isSet 0x02#8 := by
  decide

theorem revision_phase_and_late : ∀ (r : Revision) (phase : BitVec 2) (late : Bool),
    r ++ phase ++ 0#1 ++ boolBit late = BitVec.ofNat 8 (16 * r.toNat + 4 * phase.toNat) ||| flagAt late 0x01#8 := by
  decide

theorem orphan_bit (p : OrphanPolicy) : p.bit ++ 0#7 = flagAt (decide (p = .drop)) 0x80#8 := by cases p <;> rfl

theorem optionStep_eq (x : Option StepNo) : optionStep x = be32 (x.getD 0) := by cases x <;> rfl

/-! ### The ring-size estimate (R149) -/

theorem foldl_max_bounds : ∀ (l : List Nat) (a : Nat), a ≤ l.foldl max a ∧ ∀ x ∈ l, x ≤ l.foldl max a
  | [], a => ⟨le_refl a, by simp⟩
  | y :: rest, a => by
    obtain ⟨hmax, hrest⟩ := foldl_max_bounds rest (max a y)
    refine ⟨(le_max_left a y).trans hmax, fun x hx => ?_⟩
    rcases List.mem_cons.mp hx with rfl | hx
    · exact (le_max_right a x).trans hmax
    · exact hrest x hx

theorem foldl_max_reached : ∀ (l : List Nat) (a : Nat), l.foldl max a = a ∨ l.foldl max a ∈ l
  | [], _ => .inl rfl
  | y :: rest, a => by
    rcases foldl_max_reached rest (max a y) with h | h
    · rcases max_choice a y with ha | hy
      · exact .inl (h.trans ha)
      · exact .inr (List.mem_cons.mpr (.inl (h.trans hy)))
    · exact .inr (.tail _ h)

theorem hop_lt_ringSize {s : State} {p : Peer} (hp : p ∈ s.roster) (hpresent : p.silent = false) :
    p.hop.toNat + 1 ≤ s.ringSize := by
  have hmem : p.hop.toNat ∈ (s.roster.filter fun p => !p.silent).map fun p => p.hop.toNat :=
    List.mem_map_of_mem (List.mem_filter.mpr ⟨hp, by rw [hpresent]; rfl⟩)
  rw [State.ringSize, Nat.add_comm]
  exact Nat.add_le_add_left ((foldl_max_bounds _ 0).2 _ hmem) 1

theorem ringSize_reached (s : State) :
    s.ringSize = 1 ∨ ∃ p ∈ s.roster, p.silent = false ∧ s.ringSize = p.hop.toNat + 1 := by
  rcases foldl_max_reached ((s.roster.filter fun p => !p.silent).map fun p => p.hop.toNat) 0 with h | h
  · exact .inl (congrArg (1 + ·) h)
  · obtain ⟨p, hp, hmax⟩ := List.mem_map.mp h
    obtain ⟨hmem, hpresent⟩ := List.mem_filter.mp hp
    refine .inr ⟨p, hmem, by simpa using hpresent, ?_⟩
    rw [State.ringSize, ← hmax, Nat.add_comm]

/-! ### The data of each READ -/

theorem slotStates_eq (s : State) (t : Nat) :
    s.slotStates t =
      BitVec.ofNat 8 (64 * (s.originSlot t).state.code.toNat + 16 * (s.originSlot (t + 1)).state.code.toNat +
        4 * (s.originSlot (t + 2)).state.code.toNat + (s.originSlot (t + 3)).state.code.toNat) :=
  four_codes _ _ _ _

theorem OriginState.code_toNat (x : OriginState) :
    x.code.toNat =
      match x with
      | .idle => 0
      | .live => 1
      | .releasing => 2 := by
  cases x <;> rfl

theorem PublishOutcome.code_toNat (x : PublishOutcome) :
    x.code.toNat =
      match x with
      | .none => 0
      | .delivered => 1
      | .partially => 2
      | .failed => 3
      | .localRefused => 4 := by
  cases x <;> rfl

theorem EntryPhase.code_toNat (x : EntryPhase) :
    x.code.toNat =
      match x with
      | .pending => 0
      | .active => 1
      | .fading => 2 := by
  cases x <;> rfl

theorem levels_getLsbD (u : TriggerUnit) {i : Nat} (hi : i < 8) :
    u.levels.getLsbD i = (u.inputs.map TriggerInput.level).getD i false :=
  getLsbD_eight_flags (fun i => (u.inputs.map TriggerInput.level).getD i false) hi

theorem statusData_eq {s : State} (hstray : s.controller.strayAges.length < 4)
    (hjoin : s.controller.joinAttempt < 4) :
    s.readStatusData 0 =
      [s.controller.state.code,
       flagAt s.time.isSet 0x80#8 ||| flagAt s.pulse.live 0x40#8 |||
         flagAt s.controller.restartPending.isSome 0x20#8] ++
      be32 s.time.step ++
      [BitVec.ofNat 8 s.ringSize, BitVec.ofNat 8 s.roster.length, BitVec.ofNat 8 (liveCount s.table),
       BitVec.ofNat 8 (tombstoneCount s.table), BitVec.ofNat 8 s.publications.length, s.trigger.levels,
       BitVec.ofNat 8
         (64 * s.controller.missCount + 16 * s.controller.strayAges.length + s.controller.joinAttempt),
       s.slotStates 0, s.slotStates 4, s.slotStates 8, s.slotStates 12] := by
  rw [← three_flags, ← attempt_counts hstray hjoin]
  rfl

theorem readStatusData_slot {t : Nat} (ht : t < 16) (s : State) : s.readStatusData (t + 1) = s.slotData t := by
  rw [State.readStatusData, if_neg (Nat.succ_ne_zero t), if_pos (by omega), Nat.add_sub_cancel]

theorem readStatusData_input (i : Nat) (s : State) : s.readStatusData (i + 17) = s.inputData i := by
  rw [State.readStatusData, if_neg (by omega), if_neg (by omega), Nat.add_sub_cancel]

theorem slotData_length (s : State) (t : Nat) : (s.slotData t).length = 19 := by
  unfold State.slotData
  simp only [optionStep_eq]
  rfl

/-- The data of origin slot t, flag by flag and code by code. -/
theorem slotData_eq {s : State} {t : Nat} {o : OriginSlot} {entry : Option Publication} (ho : s.originSlot t = o)
    (hentry : (s.publications.find? fun e => e.slot == t) = entry)
    (hattempt : (entry.map Publication.attempt).getD 0 < 4) :
    s.slotData t =
      [BitVec.ofNat 8 (64 * o.state.code.toNat + o.revision.toNat),
       flagAt o.stop.isSome 0x80#8 ||| flagAt o.release.isSome 0x40#8 ||| flagAt o.replay 0x20#8 |||
         flagAt o.counts.isSome 0x10#8 ||| flagAt entry.isSome 0x08#8 |||
         flagAt (entry.any fun e => e.kind == .release) 0x04#8 ||| flagAt (entry.any fun e => e.onRing) 0x02#8,
       BitVec.ofNat 8 (16 * o.outcome.code.toNat + (entry.map Publication.attempt).getD 0)] ++
      be32 (o.start.getD 0) ++ be32 (o.stop.getD 0) ++ be32 ((o.release.map FadeOut.step).getD 0) ++
      be16 ((o.release.map FadeOut.fade).getD 0) ++
      [BitVec.ofNat 8 ((o.counts.map Prod.fst).getD 0).toNat,
       BitVec.ofNat 8 ((o.counts.map Prod.snd).getD 0).toNat] := by
  rw [← code_and_revision, ← seven_flags, ← outcome_and_attempt _ hattempt, ← optionStep_eq, ← optionStep_eq,
    BitVec.ofNat_toNat, BitVec.ofNat_toNat, ← zeros_append_six, ← zeros_append_six]
  simp only [State.slotData, ho, hentry]
  cases o.release <;> cases o.counts <;> rfl

/-- The data of trigger input i, without and with a capture. -/
theorem inputData_eq {s : State} {i : Nat} {x : TriggerInput} (hx : s.trigger.inputs[i]? = some x)
    (hcount : x.count < 4) :
    (x.capture = none →
      s.inputData i = [flagAt x.level 0x80#8 ||| BitVec.ofNat 8 (16 * x.count)] ++ be32 0 ++ be16 0) ∧
    ∀ c, x.capture = some c →
      s.inputData i =
        [flagAt x.level 0x80#8 ||| BitVec.ofNat 8 (16 * x.count) ||| 0x08#8 ||| flagAt (c.edge == .fall) 0x04#8 |||
          flagAt c.isSet 0x02#8] ++ be32 c.step ++ be16 (BitVec.ofNat 16 c.phase) := by
  have hinput : s.trigger.inputs.getD i { level := false, count := 0, capture := none } = x := by
    rw [List.getD_eq_getElem?_getD, hx]
    rfl
  refine ⟨fun hnone => ?_, fun c hsome => ?_⟩
  · rw [← level_and_count _ _ hcount]
    simp only [State.inputData, hinput, hnone]
  · rw [← level_count_and_capture _ _ hcount]
    simp only [State.inputData, hinput, hsome]

theorem inputData_length (s : State) (i : Nat) : (s.inputData i).length = 7 := by
  unfold State.inputData
  dsimp only
  split <;> rfl

theorem getD_of_getElem? {table : List Slot} {i : Nat} {slot : Slot} (h : table[i]? = some slot) :
    table.getD i .free = slot := by
  rw [List.getD_eq_getElem?_getD, h]
  rfl

section
variable {s : State} {i : Nat}

/-- READ CUE of a slot of the first part. -/
theorem readCueData_part1 (hi : i < 48) :
    s.readCueData i =
      match s.table.getD i .free with
      | .free => [0]
      | .tombstone t => [2, 0#2 ++ t.origin, t.number, t.revision ++ 0#4]
      | .live e =>
        [1, 0#2 ++ e.cue.origin, e.cue.number, e.cue.revision ++ e.cue.priority] ++ e.cue.rangeBytes ++
          be16 e.cue.d ++ [e.cue.orphan.bit ++ 0#7] := by
  have hpart : decide (64 ≤ i) = false := decide_eq_false (by omega)
  cases hslot : s.table.getD i .free <;>
    simp only [State.readCueData, hpart, hslot, if_neg Bool.false_ne_true, List.append_nil]

/-- READ CUE of a slot of the second part. -/
theorem readCueData_part2 :
    s.readCueData (i + 64) =
      match s.table.getD i .free with
      | .free => [0]
      | .tombstone t => [2, 0#2 ++ t.origin, t.number, t.revision ++ 0#4] ++ be32 t.step
      | .live e =>
        [1, 0#2 ++ e.cue.origin, e.cue.number, e.cue.revision ++ e.phase.code ++ 0#1 ++ boolBit e.late,
          boolBit e.cue.stop.isSome ++ boolBit e.release.isSome ++ 0#6] ++
        be32 e.cue.start ++ be32 (e.cue.stop.getD 0) ++ be32 ((e.release.map FadeOut.step).getD 0) ++
        be16 ((e.release.map FadeOut.fade).getD 0) ++ be32 e.arrival := by
  have hpart : decide (64 ≤ i + 64) = true := decide_eq_true (Nat.le_add_left 64 i)
  simp only [State.readCueData, hpart, if_true, Nat.add_sub_cancel, optionStep_eq]
  cases s.table.getD i .free with
  | free => rfl
  | tombstone t => rfl
  | live e =>
    dsimp only
    cases e.release <;> rfl

theorem peerData_eq {p : Peer} (hp : s.roster[i]? = some p) :
    s.readPeerData i =
      [1#8, p.id.setWidth 8, p.hop.setWidth 8,
       flagAt p.silent 0x80#8 ||| flagAt (p.compatible s.config.stepLength) 0x40#8 ||| flagAt p.range.isSome 0x20#8 |||
         flagAt p.stepLength.isSome 0x10#8 ||| flagAt p.interval.isSome 0x08#8] ++
      be32 p.firstHeard ++ be32 p.lastHeard ++ be16 (BitVec.ofNat 16 p.silence) ++
      be16 ((p.range.map Prod.fst).getD 0) ++ [(p.range.map Prod.snd).getD 0] ++ be16 (p.stepLength.getD 0) ++
      [p.interval.getD 0] := by
  rw [State.readPeerData, hp, ← five_flags, ← zeros_append_six, ← zeros_append_six]
  dsimp only
  cases p.range <;> rfl

theorem readPeerData_of_absent (h : s.roster.length ≤ i) :
    s.readPeerData i = [0, BitVec.ofNat 8 s.roster.length] := by
  simp only [State.readPeerData, List.getElem?_eq_none h]

theorem readChannelData_of_owned {c : Composed} (hi : i < s.config.channelCount)
    (hc : s.composer.record[i]? = some c) :
    s.readChannelData i =
      be16 (BitVec.ofNat 16 (s.config.channelBase + i)) ++ be16 (BitVec.ofNat 16 c.level) ++
        be16 (BitVec.ofNat 16 c.duty) := by
  have hrecord : s.composer.record.getD i { level := 0, duty := 0 } = c := by
    rw [List.getD_eq_getElem?_getD, hc]
    rfl
  rw [State.readChannelData, hrecord]
  exact if_pos hi

theorem readChannelData_length : (s.readChannelData i).length = 6 := by
  unfold State.readChannelData
  dsimp only
  split <;> rfl

end

/-- Settles O52, read by read. -/
theorem answerDataBytes : Obligations.AnswerDataBytes := by
  unfold Obligations.AnswerDataBytes
  refine ⟨fun table => ⟨?_, ?_⟩, fun s t => List.getD_eq_getElem?_getD, fun s => ?_⟩
  · unfold liveCount
    congr 1
    funext slot
    cases slot <;> rfl
  · unfold tombstoneCount
    congr 1
    funext slot
    cases slot <;> rfl
  intro bit word short slotState four
  have hslotState : ∀ i, (s.originSlot i).state.code.toNat = slotState i := fun i => OriginState.code_toNat _
  have hfour : ∀ i, s.slotStates i = four i := fun i => by
    rw [slotStates_eq, hslotState, hslotState, hslotState, hslotState]
  refine ⟨rfl, ⟨fun p => hop_lt_ringSize, ringSize_reached s, Nat.le_add_right 1 _⟩, fun _ hstray hjoin => ?status,
    fun t ht => ?slot, fun i x _ hx hcount => ?input, ⟨rfl, rfl, rfl, rfl⟩, rfl, bumpCount_toNat, fun k j => ?bump,
    ⟨rfl, rfl, rfl, rfl⟩, fun i slot hi hslot => ?cue, fun x p hp => ⟨peerData_eq hp, ?peer⟩,
    fun x => readPeerData_of_absent, fun i _ =>
      ⟨fun c => readChannelData_of_owned, fun h => if_neg (Nat.not_lt.mpr h), readChannelData_length⟩⟩
  case status =>
    refine ⟨s.trigger.levels, fun i => levels_getLsbD s.trigger, ?_, rfl⟩
    rw [statusData_eq hstray hjoin, hfour, hfour, hfour, hfour]
    rfl
  case slot =>
    intro o entry seen refused outcome
    rw [readStatusData_slot ht]
    refine ⟨fun hattempt => ?_, slotData_length s t⟩
    have houtcome : o.outcome.code.toNat = outcome := PublishOutcome.code_toNat _
    have hentry : (s.publications.find? fun e => e.slot == t) = entry := rfl
    have hsmall : (entry.map Publication.attempt).getD 0 < 4 := by
      cases h : entry with
      | none => exact Nat.zero_lt_succ 3
      | some e => exact hattempt e h
    rw [slotData_eq rfl hentry hsmall, hslotState, houtcome]
    rfl
  case input =>
    obtain ⟨hnone, hsome⟩ := inputData_eq hx hcount
    rw [readStatusData_input]
    exact ⟨hnone, hsome, inputData_length s i⟩
  case bump =>
    rw [get_bump]
    split
    · exact bumpCount_toNat _
    · rfl
  case cue =>
    have hheld := getD_of_getElem? hslot
    rw [readCueData_part1 hi, readCueData_part2, hheld]
    refine ⟨?_, ?_, ?_⟩
    · rintro rfl
      exact ⟨rfl, rfl⟩
    · rintro x rfl
      have hrevision : x.revision ++ 0#4 = short (16 * x.revision.toNat) := two_nibbles x.revision 0#4
      intro start
      have hstart : [2, 0#2 ++ x.origin, x.number, x.revision ++ 0#4] = start := by
        rw [zeros_append_six, hrevision]
        rfl
      exact ⟨hstart, congrArg (· ++ be32 x.step) hstart, rfl, rfl⟩
    · rintro e rfl
      intro q phase
      have hphase : e.phase.code.toNat = phase := EntryPhase.code_toNat _
      refine ⟨?_, ?_, rfl, rfl⟩
      · dsimp only
        rw [zeros_append_six, two_nibbles, orphan_bit]
        rfl
      · dsimp only
        rw [zeros_append_six, revision_phase_and_late, two_flags, hphase]
        rfl
  case peer =>
    rw [peerData_eq hp]
    rfl

end Sys2Proof.Machine
end
